-- ==== Sys2Proof/Word.lean ====
section
/-! DEFINITION. Words of the block: a byte, the 40-bit command word (R40), the 32-bit transport status (R24). -/

namespace Sys2Proof

/-- "A byte is 8 bits" (00_scope.md section 6): a register address on the wire, a register value. -/
abbrev Byte := BitVec 8

/-- The command word `cmd[39:0]` (R40). -/
abbrev CommandWord := BitVec 40

/-- The transport's status at the port: 32 bits, two's complement (R24, D9). -/
abbrev Status := BitVec 32

end Sys2Proof
end

