-- ==== Sys2Proof/Config.lean ====
section
/-! DEFINITION. What an instance of the block fixes (00_scope.md section 5, R4), the types the environment's answers
have, and the free values: constants without a body, of which nothing can be proved. -/

namespace Sys2Proof

/-- The debug-verbosity setting DBG (R13): "none, info, detailed". The value 3 "is never held". -/
inductive DebugLevel where
  | none
  | info
  | detailed
  deriving DecidableEq, Repr, Inhabited

/-- The handle's three constant fields (R15). Their types are the model's (log 5, DESIGN CHOICE): the spec leaves
them open (D25) and no rule computes with them. -/
structure Handle where
  /-- BUS: the adapter instance every call goes to. -/
  bus : Nat
  /-- DEV_ADDR: selects the sensor; used by the adapter, in no frame byte. -/
  devAddr : Nat
  /-- NAME: human-readable, used only in diagnostics. -/
  name : String
  deriving DecidableEq, Repr, Inhabited

/-- The two calls of the Bus Transaction Adapter (R24, R25). -/
inductive AdapterRequest where
  /-- `write(bytes)` (R24). -/
  | write (bytes : List Byte)
  /-- `write_then_read(writeBytes, readLen)` (R25). -/
  | writeThenRead (bytes : List Byte) (readLen : Nat)
  deriving DecidableEq, Repr, Inhabited

/-- A call as made: the adapter instance and device address of the handle (R15), and the request. -/
structure AdapterCall where
  bus : Nat
  devAddr : Nat
  request : AdapterRequest
  deriving DecidableEq, Repr, Inhabited

/-- What the adapter hands back: an integer status and a byte sequence of any length (R24, R25; log 11).
After a `write` the sequence is ignored (R45). -/
structure AdapterReply where
  status : Status
  rbytes : List Byte
  deriving DecidableEq, Repr, Inhabited

/-- The environment's answer to one call: a reply, or none ever (R168, U8; log 6). -/
inductive AdapterAnswer where
  | reply (r : AdapterReply)
  | never
  deriving DecidableEq, Repr, Inhabited

/-- The operation a diagnostic message can name (R132). -/
inductive RegisterOperation where
  | read
  | write
  deriving DecidableEq, Repr, Inhabited

/-- All that a diagnostic message of one register access can depend on (R132): the level, the handle's name, the
operation, the register, and which access it is. -/
structure DiagnosticContext where
  level : DebugLevel
  name : String
  operation : RegisterOperation
  addr : Int
  access : Nat
  deriving DecidableEq, Repr, Inhabited

namespace Config

/-- AW = 16 bits, two's complement: the least address operand a word carries (00_scope.md section 5, D7). -/
def addrMin : Int := -32768

/-- The greatest address operand a word carries (D7). -/
def addrMax : Int := 32767

/-- VW = 16 bits, unsigned: the greatest value operand a word carries (D8). -/
def valueMax : Int := 65535

/-- RMAX: the largest byte count a transport reply can carry at the port (D10). -/
def rmax : Nat := 255

/-- ERR_BYTE (R67, D16): "OPEN: parameter ERR_BYTE, one 8-bit constant per instance" (log 4). -/
opaque errByte : Byte

/-- BUS, DEV_ADDR, NAME as fixed at instantiation (R15, D25; log 5). -/
opaque handle : Handle

/-- The answer to the n-th adapter call where State lists none: any value (U1, U2, U8; log 3). -/
opaque freeAnswer : Nat → AdapterCall → AdapterAnswer

/-- The messages one register access emits at a level other than none: any list (U11, R132; log 8). -/
opaque freeDiagnostics : DiagnosticContext → List String

end Config

end Sys2Proof
end

