-- ==== Sys2Proof/Syntax.lean ====
section
/-! DEFINITION. The 21 commands (R42), on the abstract operands the rules are written on (30_encoding.md,
introduction): `addr` and `value` are mathematical integers, the codec's bytes 8 bits, the level 2 bits. -/

namespace Sys2Proof

/-- One constructor per row of spec/opcode_table.json. -/
inductive Instr where
  /-- `validate_address(addr)`, R60. -/
  | validateAddress (addr : Int)
  /-- `address_name(addr)`, R62. -/
  | addressName (addr : Int)
  /-- `read_register(addr)`, R64. -/
  | readRegister (addr : Int)
  /-- `write_register(addr, value)`, R68. -/
  | writeRegister (addr value : Int)
  /-- `decode(intByte, fractByte)`, R80. -/
  | decode (intByte fractByte : Byte)
  /-- `read_temp_int()`, R101. -/
  | readTempInt
  /-- `read_temp_ext1()`, R102. -/
  | readTempExt1
  /-- `read_temp_ext2()`, R103. -/
  | readTempExt2
  /-- `read_status()`, R105. -/
  | readStatus
  /-- `read_config0()`, R106. -/
  | readConfig0
  /-- `read_config1()`, R107. -/
  | readConfig1
  /-- `read_conv_rate0()`, R108. -/
  | readConvRate0
  /-- `read_conv_rate1()`, R109. -/
  | readConvRate1
  /-- `read_product_id()`, R110. -/
  | readProductId
  /-- `read_manufacturer_id()`, R111. -/
  | readManufacturerId
  /-- `read_revision()`, R112. -/
  | readRevision
  /-- `write_config0(value)`, R114. -/
  | writeConfig0 (value : Int)
  /-- `write_config1(value)`, R115. -/
  | writeConfig1 (value : Int)
  /-- `write_conv_rate0(value)`, R116. -/
  | writeConvRate0 (value : Int)
  /-- `write_conv_rate1(value)`, R117. -/
  | writeConvRate1 (value : Int)
  /-- `set_debug(level)`, R130. -/
  | setDebug (level : BitVec 2)
  deriving DecidableEq, Repr, Inhabited

end Sys2Proof
end

