-- ==== Sys2Proof/WellFormed.lean ====
section
/-! DEFINITION. Which commands a command word can carry (R41): the address operand is a signed 16-bit integer (D7),
the value operand an unsigned 16-bit one (D8). The rules of files 40 to 43 hold on all integers (log 10); only the
encoder needs this check. -/

namespace Sys2Proof

/-- `addr = sext_16(a)`, "a mathematical integer from -32768 to 32767" (R41). -/
def addrFits (addr : Int) : Bool :=
  decide (Config.addrMin ≤ addr) && decide (addr ≤ Config.addrMax)

/-- `value = zext_16(b)`, "from 0 to 65535" (R41). -/
def valueFits (value : Int) : Bool :=
  decide (0 ≤ value) && decide (value ≤ Config.valueMax)

/-- The command's operands fit the fields of R41. -/
def Instr.wellFormed : Instr → Bool
  | .validateAddress addr => addrFits addr
  | .addressName addr => addrFits addr
  | .readRegister addr => addrFits addr
  | .writeRegister addr value => addrFits addr && valueFits value
  | .decode _ _ => true
  | .readTempInt => true
  | .readTempExt1 => true
  | .readTempExt2 => true
  | .readStatus => true
  | .readConfig0 => true
  | .readConfig1 => true
  | .readConvRate0 => true
  | .readConvRate1 => true
  | .readProductId => true
  | .readManufacturerId => true
  | .readRevision => true
  | .writeConfig0 value => valueFits value
  | .writeConfig1 value => valueFits value
  | .writeConvRate0 value => valueFits value
  | .writeConvRate1 value => valueFits value
  | .setDebug _ => true

/-- At the port a reply carries at most RMAX bytes (R25, D10). The block's rules do not need it (log 11). -/
def AdapterReply.fitsPort (r : AdapterReply) : Bool := decide (r.rbytes.length ≤ Config.rmax)

end Sys2Proof
end

