-- ==== Sys2Proof/Decode.lean ====
section
/-! DEFINITION. From a 40-bit command word to a command (R40 to R42), total, rejecting by name (R51), and back. -/

namespace Sys2Proof

/-- Why a word is no command (R51 a). Raised by the decoder; the step answers it with IllegalCommand (R148), so it
stops nothing. -/
inductive DecodeError where
  /-- The opcode is "not in the table of rule R42 (235 values ...)". -/
  | illegalOpcode (op : BitVec 8)
  deriving DecidableEq, Repr

/-- `op = cmd[39:32]` (R40). -/
def opField (w : CommandWord) : BitVec 8 := w.extractLsb' 32 8

/-- `a = cmd[31:16]` (R40). -/
def aField (w : CommandWord) : BitVec 16 := w.extractLsb' 16 16

/-- `b = cmd[15:0]` (R40). -/
def bField (w : CommandWord) : BitVec 16 := w.extractLsb' 0 16

/-- Formats A and AV: `addr = sext_16(a)` (R41). -/
def addrOperand (w : CommandWord) : Int := (aField w).toInt

/-- Formats AV and V: `value = zext_16(b)` (R41). -/
def valueOperand (w : CommandWord) : Int := ((bField w).toNat : Int)

/-- Format D: `intByte = a[7:0]` (R41). -/
def intByteOperand (w : CommandWord) : Byte := (aField w).extractLsb' 0 8

/-- Format D: `fractByte = b[7:0]` (R41). -/
def fractByteOperand (w : CommandWord) : Byte := (bField w).extractLsb' 0 8

/-- Format L: `level = b[1:0]` (R41). -/
def levelOperand (w : CommandWord) : BitVec 2 := (bField w).extractLsb' 0 2

/-- The opcode map of R42. "A decoder matches `cmd & 0xFF00000000` against `op << 32`." -/
def decode (w : CommandWord) : Except DecodeError Instr :=
  match opField w with
  | 0x00 => .ok (.validateAddress (addrOperand w))
  | 0x01 => .ok (.addressName (addrOperand w))
  | 0x02 => .ok (.readRegister (addrOperand w))
  | 0x03 => .ok (.writeRegister (addrOperand w) (valueOperand w))
  | 0x10 => .ok (.decode (intByteOperand w) (fractByteOperand w))
  | 0x20 => .ok .readTempInt
  | 0x21 => .ok .readTempExt1
  | 0x22 => .ok .readTempExt2
  | 0x30 => .ok .readStatus
  | 0x31 => .ok .readConfig0
  | 0x32 => .ok .readConfig1
  | 0x33 => .ok .readConvRate0
  | 0x34 => .ok .readConvRate1
  | 0x35 => .ok .readProductId
  | 0x36 => .ok .readManufacturerId
  | 0x37 => .ok .readRevision
  | 0x40 => .ok (.writeConfig0 (valueOperand w))
  | 0x41 => .ok (.writeConfig1 (valueOperand w))
  | 0x42 => .ok (.writeConvRate0 (valueOperand w))
  | 0x43 => .ok (.writeConvRate1 (valueOperand w))
  | 0x50 => .ok (.setDebug (levelOperand w))
  | op => .error (.illegalOpcode op)

/-- A word from its three fields, `op` in the high bits (R40). -/
def packWord (op : BitVec 8) (a b : BitVec 16) : CommandWord := op ++ a ++ b

/-- The opcode column of R42. -/
def Instr.opcode : Instr → BitVec 8
  | .validateAddress _ => 0x00
  | .addressName _ => 0x01
  | .readRegister _ => 0x02
  | .writeRegister _ _ => 0x03
  | .decode _ _ => 0x10
  | .readTempInt => 0x20
  | .readTempExt1 => 0x21
  | .readTempExt2 => 0x22
  | .readStatus => 0x30
  | .readConfig0 => 0x31
  | .readConfig1 => 0x32
  | .readConvRate0 => 0x33
  | .readConvRate1 => 0x34
  | .readProductId => 0x35
  | .readManufacturerId => 0x36
  | .readRevision => 0x37
  | .writeConfig0 _ => 0x40
  | .writeConfig1 _ => 0x41
  | .writeConvRate0 _ => 0x42
  | .writeConvRate1 _ => 0x43
  | .setDebug _ => 0x50

/-- Field `a` of the encoding (R41); 0 where the format does not read it (log 15). -/
def Instr.aOperand : Instr → BitVec 16
  | .validateAddress addr => BitVec.ofInt 16 addr
  | .addressName addr => BitVec.ofInt 16 addr
  | .readRegister addr => BitVec.ofInt 16 addr
  | .writeRegister addr _ => BitVec.ofInt 16 addr
  | .decode intByte _ => intByte.setWidth 16
  | .readTempInt => 0
  | .readTempExt1 => 0
  | .readTempExt2 => 0
  | .readStatus => 0
  | .readConfig0 => 0
  | .readConfig1 => 0
  | .readConvRate0 => 0
  | .readConvRate1 => 0
  | .readProductId => 0
  | .readManufacturerId => 0
  | .readRevision => 0
  | .writeConfig0 _ => 0
  | .writeConfig1 _ => 0
  | .writeConvRate0 _ => 0
  | .writeConvRate1 _ => 0
  | .setDebug _ => 0

/-- Field `b` of the encoding (R41); 0 where the format does not read it (log 15). -/
def Instr.bOperand : Instr → BitVec 16
  | .validateAddress _ => 0
  | .addressName _ => 0
  | .readRegister _ => 0
  | .writeRegister _ value => BitVec.ofInt 16 value
  | .decode _ fractByte => fractByte.setWidth 16
  | .readTempInt => 0
  | .readTempExt1 => 0
  | .readTempExt2 => 0
  | .readStatus => 0
  | .readConfig0 => 0
  | .readConfig1 => 0
  | .readConvRate0 => 0
  | .readConvRate1 => 0
  | .readProductId => 0
  | .readManufacturerId => 0
  | .readRevision => 0
  | .writeConfig0 value => BitVec.ofInt 16 value
  | .writeConfig1 value => BitVec.ofInt 16 value
  | .writeConvRate0 value => BitVec.ofInt 16 value
  | .writeConvRate1 value => BitVec.ofInt 16 value
  | .setDebug level => level.setWidth 16

/-- The word of a command (R40 to R42). -/
def encode (i : Instr) : CommandWord := packWord i.opcode i.aOperand i.bOperand

/-- The command word a row of spec/opcode_table.json describes by its first `nbits` bits: bit `i` of the number is
`cmd[i]`, every bit above `nbits` is 0. The command port is 40 bits wide in parallel, so no byte order enters (log 17). -/
def wordOfTable (nbits w : Nat) : CommandWord := BitVec.ofNat 40 (w % 2 ^ nbits)

/-- What the decoder reads from a table word; none where it refuses. -/
def decodeTableWord (nbits w : Nat) : Option Instr :=
  match decode (wordOfTable nbits w) with
  | .ok i => some i
  | .error _ => none

end Sys2Proof
end

