-- ==== Sys2Proof/Machine/State.lean ====
section
/-! DEFINITION. The state of the block with its ports, as plain data (R10 to R18, R160, R163), the responses it
gives (R43, R44), and the state after reset. -/

namespace Sys2Proof.Machine

/-- Outcome kinds (R44). 5, 6 and 7 are "never produced". -/
inductive Kind where
  /-- 0: the command succeeded. -/
  | ok
  /-- 1: "address outside representable range". -/
  | invalidAddress
  /-- 2: "transport reported failure". -/
  | busError
  /-- 3: "response byte count mismatch". -/
  | shortRead
  /-- 4: the opcode is not one of the 21, or SET_DEBUG's level is 3. -/
  | illegalCommand
  deriving DecidableEq, Repr, Inhabited

/-- The response record of R43, field for field. -/
structure Response where
  kind : Kind
  code : Status
  data : Byte
  kind2 : Kind
  code2 : Status
  data2 : Byte
  failed : Bool
  temp : BitVec 32
  deriving DecidableEq, Repr, Inhabited

/-- The typed result of a register read (R44): `Ok(u8) | InvalidAddress | BusError(code) | ShortRead`. -/
inductive ReadResult where
  | ok (data : Byte)
  | invalidAddress
  | busError (code : Status)
  | shortRead
  deriving DecidableEq, Repr, Inhabited

/-- The typed result of a register write (R44): `Ok | InvalidAddress | BusError(code)`. -/
inductive WriteResult where
  | ok
  | invalidAddress
  | busError (code : Status)
  deriving DecidableEq, Repr, Inhabited

/-- How far a register access came: it has its result, or it waits for an adapter that never answers (R168). -/
inductive Access (ρ : Type) where
  | done (result : ρ)
  | waiting (call : AdapterRequest)
  deriving DecidableEq, Repr

/-- The block and its ports. INVENTORY.md, heading State, names the rule of every field. -/
structure State where
  /-- DBG, the only mutable state of the block (R13). -/
  dbg : DebugLevel
  /-- BUS, DEV_ADDR, NAME: constant (R15). -/
  handle : Handle
  /-- The call a command in progress waits for; `none` when the block is idle (R164, R168). -/
  inFlight : Option AdapterRequest
  /-- The reset input, sampled by the next step (R160). -/
  rst : Bool
  /-- What the requester presents, in order; the head is on the command port. An input, not a queue of the block
  (R164: "There is no queue of commands"; log 1). -/
  requester : List CommandWord
  /-- Answers given for the adapter calls to come; where the list is empty the answer is free (log 3). -/
  answers : List AdapterAnswer
  /-- The model's own: adapter calls made so far, the index of the next free answer (log 3). -/
  calls : Nat
  /-- The model's own: register accesses begun so far, the index of the next free messages (log 8). -/
  accesses : Nat
  /-- "the trace of adapter calls" (R31), oldest first (log 9). -/
  trace : List AdapterCall
  /-- The responses produced, oldest first; the last is on the response port (R43, R164; log 9). -/
  responses : List Response
  /-- The optional diagnostic output, "whose content is unspecified" (R132, R163; log 8). -/
  diagnostics : List String
  deriving DecidableEq, Repr

/-- No fault exists: "No failure is fatal to the process — each call's failure is local and reported, never crashes
the handle" (R147; log 19). Safe: nothing is left out by it. -/
inductive Fault where
  deriving DecidableEq, Repr

/-- Why the model gives an instruction no meaning. -/
inductive Refusal where
  /-- Raised by an arm of exec that has no meaning yet. Safe. No arm raises it. -/
  | notModelled (mnemonic : String)
  deriving DecidableEq, Repr

/-- After reset (R14, R160, 10_state.md "Reset values in one place"): DBG is none, no command is in progress, the
handle holds its instantiation constants. The ports show nothing yet (log 1, 3, 7, 8, 9; DESIGN CHOICE). -/
def State.reset : State where
  dbg := .none
  handle := Config.handle
  inFlight := none
  rst := false
  requester := []
  answers := []
  calls := 0
  accesses := 0
  trace := []
  responses := []
  diagnostics := []

end Sys2Proof.Machine
end

