-- ==== Sys2Proof/Machine/Flags.lean ====
section
/-! DEFINITION. The block has no flags (R12). What takes their place is here: the one-bit `failed` and the outcome
fields of a response (R43, R44, R67). -/

namespace Sys2Proof.Machine

/-- `failed`: "1 if kind != OK or kind2 != OK, else 0" (R43). -/
def failedBit (kind kind2 : Kind) : Bool := !(decide (kind = .ok) && decide (kind2 = .ok))

/-- A response of a command with one outcome: `kind2`, `code2`, `data2` are 0 (R43). -/
def plainResponse (kind : Kind) (code : Status) (data : Byte) (temp : BitVec 32) : Response where
  kind := kind
  code := code
  data := data
  kind2 := .ok
  code2 := 0
  data2 := 0
  failed := failedBit kind .ok
  temp := temp

/-- The `kind` of a read's outcome (R64). -/
def ReadResult.kind : ReadResult → Kind
  | .ok _ => .ok
  | .invalidAddress => .invalidAddress
  | .busError _ => .busError
  | .shortRead => .shortRead

/-- The `code` of a read's outcome: "the transport's status when `kind = BusError`, else 0" (R43). -/
def ReadResult.code : ReadResult → Status
  | .ok _ => 0
  | .invalidAddress => 0
  | .busError code => code
  | .shortRead => 0

/-- The `data` of a read's outcome: the byte, or ERR_BYTE "on every failure" (R67). -/
def ReadResult.data : ReadResult → Byte
  | .ok data => data
  | .invalidAddress => Config.errByte
  | .busError _ => Config.errByte
  | .shortRead => Config.errByte

/-- The `kind` of a write's outcome (R68). -/
def WriteResult.kind : WriteResult → Kind
  | .ok => .ok
  | .invalidAddress => .invalidAddress
  | .busError _ => .busError

/-- The `code` of a write's outcome (R68). -/
def WriteResult.code : WriteResult → Status
  | .ok => 0
  | .invalidAddress => 0
  | .busError code => code

/-- The response of a temperature read: both outcomes in full, `failed` their logical OR (R100, D18). -/
def temperatureResponse (r1 r2 : ReadResult) (temp : BitVec 32) : Response where
  kind := r1.kind
  code := r1.code
  data := r1.data
  kind2 := r2.kind
  code2 := r2.code
  data2 := r2.data
  failed := failedBit r1.kind r2.kind
  temp := temp

end Sys2Proof.Machine
end

