-- ==== Sys2Proof/Machine/Operands.lean ====
section
/-! DEFINITION. Operands on their way to the wire: the address check (R60), the address byte (R46), the value mask
(R48), the two frames (R26, R27). Assembly from the command word is in Decode.lean (R41). -/

namespace Sys2Proof.Machine

/-- `validate(addr)`: "fails if addr is outside [0x00, 0xFF]" (R60). -/
def validAddress (addr : Int) : Bool := decide (0 ≤ addr) && decide (addr ≤ 255)

/-- `A = addr[7:0]` of a validated address (R46). -/
def addressByte (addr : Int) : Byte := BitVec.ofInt 8 addr

/-- `V = value mod 256` (R48): "Masking never fails". -/
def maskValue (value : Int) : Byte := BitVec.ofInt 8 (value % 256)

/-- The read frame: `write_then_read([addr], 1)` (R26). -/
def readFrame (addr : Int) : AdapterRequest := .writeThenRead [addressByte addr] 1

/-- The write frame: `write([addr, value mod 256])`, "the address first" (R27). -/
def writeFrame (addr value : Int) : AdapterRequest := .write [addressByte addr, maskValue value]

/-- SET_DEBUG's levels: "0 none, 1 info, 2 detailed"; 3 is none of them (R130, D22). -/
def debugLevelOf (level : BitVec 2) : Option DebugLevel :=
  match level with
  | 0 => some .none
  | 1 => some .info
  | 2 => some .detailed
  | _ => none

end Sys2Proof.Machine
end

