-- ==== Sys2Proof/Machine/Ops.lean ====
section
/-! DEFINITION. The shared operations: one adapter call (R24, R25), one register access (R64, R68), producing the
response (R43), raising a failure (R144), waiting for the adapter (R168), reset (R160). -/

namespace Sys2Proof.Machine

/-- Where a request goes: the handle's adapter and device (R15, R24). -/
def State.callTo (s : State) (q : AdapterRequest) : AdapterCall where
  bus := s.handle.bus
  devAddr := s.handle.devAddr
  request := q

/-- The environment's answer to a request made now: the next listed one, else any value (R21, U1, U2, U8; log 3). -/
def State.answerTo (s : State) (q : AdapterRequest) : AdapterAnswer :=
  match s.answers with
  | a :: _ => a
  | [] => Config.freeAnswer s.calls (s.callTo q)

/-- The call is made: it enters the trace and its answer is used up (R31). -/
def State.logCall (q : AdapterRequest) (s : State) : State :=
  { s with
    answers := s.answers.tail
    calls := s.calls + 1
    trace := s.trace ++ [s.callTo q] }

/-- The messages of one register access (R132): "With DBG = 0 nothing is emitted"; at the other levels any list. -/
def State.emission (s : State) (operation : RegisterOperation) (addr : Int) : List String :=
  match s.dbg with
  | .none => []
  | level =>
    Config.freeDiagnostics
      { level := level, name := s.handle.name, operation := operation, addr := addr, access := s.accesses }

/-- A register access begins and may emit its messages (R70, R132; log 8). -/
def State.noteAccess (operation : RegisterOperation) (addr : Int) (s : State) : State :=
  { s with
    accesses := s.accesses + 1
    diagnostics := s.diagnostics ++ s.emission operation addr }

/-- The response is produced (R164: "The response is produced once per command"). -/
def State.respond (r : Response) (s : State) : State :=
  { s with responses := s.responses ++ [r] }

/-- The command ends with success (R43, R44 kind 0). -/
def State.succeed (data : Byte) (temp : BitVec 32) (s : State) : State :=
  s.respond (plainResponse .ok 0 data temp)

/-- Raising a failure (R144), what takes the place of taking an exception: the response carries the failure's kind
"and nothing else happens: no state is saved, no state is changed ..., no mode changes, control goes nowhere".
There is no return from it (R147). -/
def State.raise (kind : Kind) (code : Status) (data : Byte) (s : State) : State :=
  s.respond (plainResponse kind code data 0)

/-- The response to an illegal command: `kind = IllegalCommand`, "all other fields 0" (R51, R148). -/
def State.illegalCommand (s : State) : State := s.raise .illegalCommand 0 0

/-- The adapter never answers: "the command never ends, the block stays busy" (R168). -/
def State.wait (q : AdapterRequest) (s : State) : State := { s with inFlight := some q }

/-- Steps 3 to 5 of READ_REGISTER on the adapter's reply (R64, R65, R66, R67). -/
def readCheck (r : AdapterReply) : ReadResult :=
  if r.status ≠ 0 then .busError r.status
  else
    match r.rbytes with
    | [b] => .ok (b &&& 0xFF)
    | _ => .shortRead

/-- Step 4 of WRITE_REGISTER on the adapter's status; the reply's bytes are ignored (R45, R68). -/
def writeCheck (r : AdapterReply) : WriteResult :=
  if r.status ≠ 0 then .busError r.status else .ok

/-- One register read, steps 1 to 5 of R64. -/
def readAccess (addr : Int) (s : State) : Access ReadResult × State :=
  if validAddress addr then
    match (s.noteAccess .read addr).answerTo (readFrame addr) with
    | .reply r => (.done (readCheck r), (s.noteAccess .read addr).logCall (readFrame addr))
    | .never => (.waiting (readFrame addr), (s.noteAccess .read addr).logCall (readFrame addr))
  else (.done .invalidAddress, s.noteAccess .read addr)

/-- One register write, steps 1 to 4 of R68. -/
def writeAccess (addr value : Int) (s : State) : Access WriteResult × State :=
  if validAddress addr then
    match (s.noteAccess .write addr).answerTo (writeFrame addr value) with
    | .reply r => (.done (writeCheck r), (s.noteAccess .write addr).logCall (writeFrame addr value))
    | .never => (.waiting (writeFrame addr value), (s.noteAccess .write addr).logCall (writeFrame addr value))
  else (.done .invalidAddress, s.noteAccess .write addr)

/-- A single read's result on the response (R64). -/
def State.finishRead (r : ReadResult) (s : State) : State :=
  match r with
  | .ok data => s.succeed data 0
  | failure => s.raise failure.kind failure.code failure.data

/-- A single write's result on the response: `data` is 0 (R68). -/
def State.finishWrite (r : WriteResult) (s : State) : State :=
  match r with
  | .ok => s.succeed 0 0
  | failure => s.raise failure.kind failure.code 0

/-- A command that is one register read (R64, R104). -/
def runRead (addr : Int) (s : State) : State :=
  match readAccess addr s with
  | (.done r, t) => t.finishRead r
  | (.waiting q, t) => t.wait q

/-- A command that is one register write (R68, R113). -/
def runWrite (addr value : Int) (s : State) : State :=
  match writeAccess addr value s with
  | (.done r, t) => t.finishWrite r
  | (.waiting q, t) => t.wait q

/-- Reset (R160): "DBG becomes 0 (none); any command in progress is abandoned without a response; no adapter call is
outstanding afterwards". The handle is not affected, nothing is sent (R161). The step that sees `rst` consumes it (log 7). -/
def State.applyReset (s : State) : State :=
  { s with dbg := .none, inFlight := none, rst := false }

/-- The block takes the word on the command port (R164). -/
def State.accept (s : State) : State := { s with requester := s.requester.tail }

end Sys2Proof.Machine
end

