-- ==== Sys2Proof/Machine/Codec.lean ====
section
/-! DEFINITION. The Temperature Codec: the four steps of DECODE (R80 to R84), the float on the port (R49, R50), the
decode port (R163), the command DECODE. -/

namespace Sys2Proof.Machine

/-- Step 1: `raw = (intByte << 3) | ((fractByte & 0xE0) >> 5)`, 11 bits (R47, R81). -/
def rawField (intByte fractByte : Byte) : BitVec 11 :=
  (intByte.setWidth 11 <<< 3) ||| ((fractByte &&& 0xE0) >>> 5).setWidth 11

/-- Step 2, the test: "on bit 10 of `raw` and nothing else" (R82). -/
def rawNegative (raw : BitVec 11) : Bool := raw.getLsbD 10

/-- Step 2: the magnitude, `(~raw + 1) & 0x7FF` when bit 10 is set (R82). -/
def magnitude (raw : BitVec 11) : BitVec 11 :=
  if rawNegative raw then (~~~raw + 1) &&& 0x7FF else raw

/-- Step 3: `whole = (magnitude >> 3) & 0xFF` (R83). -/
def wholePart (mag : BitVec 11) : BitVec 8 := ((mag >>> 3) &&& 0xFF).setWidth 8

/-- Step 3: `eighths = magnitude & 0x3`; `magnitude[2]` is discarded (R83, C1). -/
def eighthsPart (mag : BitVec 11) : BitVec 2 := (mag &&& 0x3).setWidth 2

/-- A decoded temperature, `sign * (whole + eighths * 0.125)` with the sign kept apart, so that a negative zero is
one (R50, D14). -/
structure Temperature where
  negative : Bool
  whole : BitVec 8
  eighths : BitVec 2
  deriving DecidableEq, Repr

/-- `m = 8 * whole + eighths` (R49, R84). -/
def Temperature.m (t : Temperature) : Nat := 8 * t.whole.toNat + t.eighths.toNat

/-- `8 * T`, the temperature in eighths of a degree (R87). -/
def Temperature.inEighths (t : Temperature) : Int := if t.negative then -(t.m : Int) else (t.m : Int)

/-- Step 4: `T = sign * (whole + eighths * 0.125)`, an exact rational (R84). -/
def Temperature.value (t : Temperature) : Rat :=
  (if t.negative then -1 else 1) * ((t.whole.toNat : Rat) + (t.eighths.toNat : Rat) * (1 / 8))

/-- Steps 1 to 4 of DECODE (R80). -/
def decodeTemperature (intByte fractByte : Byte) : Temperature where
  negative := rawNegative (rawField intByte fractByte)
  whole := wholePart (magnitude (rawField intByte fractByte))
  eighths := eighthsPart (magnitude (rawField intByte fractByte))

/-- The position of the highest set bit of `m`: `2^k <= m < 2^(k+1)` (R49). -/
def topBit (m : Nat) : Nat := Nat.log2 m

/-- The binary32 pattern of R49, of a float whose sign bit is `t.negative` and magnitude `m / 8`. -/
def Temperature.binary32 (t : Temperature) : BitVec 32 :=
  let sign : BitVec 32 := if t.negative then 1 else 0
  let k := topBit t.m
  if t.m = 0 then sign <<< 31
  else (sign <<< 31) ||| (BitVec.ofNat 32 (124 + k) <<< 23) ||| BitVec.ofNat 32 ((t.m - 2 ^ k) <<< (23 - k))

/-- The alternative of R49: "For a model that prefers binary64". No response carries it. -/
def Temperature.binary64 (t : Temperature) : BitVec 64 :=
  let sign : BitVec 64 := if t.negative then 1 else 0
  let k := topBit t.m
  if t.m = 0 then sign <<< 63
  else (sign <<< 63) ||| (BitVec.ofNat 64 (1020 + k) <<< 52) ||| BitVec.ofNat 64 ((t.m - 2 ^ k) <<< (52 - k))

/-- The rational a finite binary32 pattern stands for: 1 sign bit, 8 exponent bits with bias 127, 23 fraction bits.
PRESUMED (R49: "from general knowledge, not in source", GK2; log 14). Only claims use it. -/
def binary32Value (w : BitVec 32) : Rat :=
  let sign : Rat := if w.getLsbD 31 then -1 else 1
  let exponent := (w.extractLsb' 23 8).toNat
  let fraction := (w.extractLsb' 0 23).toNat
  if exponent = 0 then sign * ((fraction * 2 : Nat) : Rat) / ((2 ^ 150 : Nat) : Rat)
  else sign * (((2 ^ 23 + fraction) * 2 ^ exponent : Nat) : Rat) / ((2 ^ 150 : Nat) : Rat)

/-- The decode port: `int_byte[7:0]`, `fract_byte[7:0]` in, `temp[31:0]` out, "purely combinational" (R163). -/
def decodePort (intByte fractByte : Byte) : BitVec 32 := (decodeTemperature intByte fractByte).binary32

/-- DECODE (R80): `kind = OK`, `temp = T`, "all other fields 0". -/
def execDecode (intByte fractByte : Byte) (s : State) : Host.Outcome State Fault Refusal :=
  .next (s.succeed 0 (decodePort intByte fractByte))

end Sys2Proof.Machine
end

