-- ==== Sys2Proof/Machine/Control.lean ====
section
/-! DEFINITION. SET_DEBUG, the one command that writes state (R130). -/

namespace Sys2Proof.Machine

/-- `DBG <- level` (R130). -/
def State.setDbg (level : DebugLevel) (s : State) : State := { s with dbg := level }

/-- SET_DEBUG (R130): level 3 raises IllegalCommand and leaves DBG unchanged. -/
def execSetDebug (level : BitVec 2) (s : State) : Host.Outcome State Fault Refusal :=
  .next
    (match debugLevelOf level with
     | some d => (s.setDbg d).succeed 0 0
     | none => s.illegalCommand)

end Sys2Proof.Machine
end

