-- ==== Sys2Proof/Machine/RegisterMap.lean ====
section
/-! DEFINITION. The 14 register addresses of the sensor and their names (R22, R55, R62). -/

namespace Sys2Proof.Machine

/-- Internal diode temperature, integer part (R22). -/
def regInternalInt : Int := 0x00
/-- Internal diode temperature, fractional part (R22). -/
def regInternalFract : Int := 0x29
/-- External diode 1, integer part (R22; the assignment within the pair is D26). -/
def regExternal1Int : Int := 0x01
/-- External diode 1, fractional part (R22, D26). -/
def regExternal1Fract : Int := 0x10
/-- External diode 2, integer part (R22, D26). -/
def regExternal2Int : Int := 0x23
/-- External diode 2, fractional part (R22, D26). -/
def regExternal2Fract : Int := 0x24
/-- Status (R22). -/
def regStatus : Int := 0x02
/-- Config 0 (R22). -/
def regConfig0 : Int := 0x03
/-- Config 1 (R22). -/
def regConfig1 : Int := 0x09
/-- Conversion rate 0 (R22). -/
def regConvRate0 : Int := 0x04
/-- Conversion rate 1 (R22). -/
def regConvRate1 : Int := 0x0A
/-- Product ID (R22). -/
def regProductId : Int := 0xFD
/-- Manufacturer ID (R22). -/
def regManufacturerId : Int := 0xFE
/-- Revision (R22). -/
def regRevision : Int := 0xFF

/-- One row of the table of R62. -/
structure RegisterName where
  addr : Int
  id : Byte
  text : String
  deriving DecidableEq, Repr

/-- The documented addresses in the order of R22. The texts of ids 1 to 13 are the spec's own (D20). -/
def registerNames : List RegisterName :=
  [⟨regInternalInt, 0, "internal diode temperature, integer part"⟩,
   ⟨regInternalFract, 1, "internal diode temperature, fractional part"⟩,
   ⟨regExternal1Int, 2, "external diode 1 temperature, integer part"⟩,
   ⟨regExternal1Fract, 3, "external diode 1 temperature, fractional part"⟩,
   ⟨regExternal2Int, 4, "external diode 2 temperature, integer part"⟩,
   ⟨regExternal2Fract, 5, "external diode 2 temperature, fractional part"⟩,
   ⟨regStatus, 6, "status"⟩,
   ⟨regConfig0, 7, "configuration 0"⟩,
   ⟨regConfig1, 8, "configuration 1"⟩,
   ⟨regConvRate0, 9, "conversion rate 0"⟩,
   ⟨regConvRate1, 10, "conversion rate 1"⟩,
   ⟨regProductId, 11, "product ID"⟩,
   ⟨regManufacturerId, 12, "manufacturer ID"⟩,
   ⟨regRevision, 13, "revision"⟩]

/-- The default for "any other address" (R62). -/
def otherName : String := "other/unknown"

/-- The row of a documented address, if it is one. -/
def registerRow (addr : Int) : Option RegisterName :=
  registerNames.find? fun row => row.addr == addr

/-- ADDRESS_NAME's name id (R62): total, 14 for any other address, also outside 0 to 255 (D21). -/
def addressNameId (addr : Int) : Byte :=
  match registerRow addr with
  | some row => row.id
  | none => 14

/-- The string the id stands for (R55, R62). -/
def addressNameText (addr : Int) : String :=
  match registerRow addr with
  | some row => row.text
  | none => otherName

end Sys2Proof.Machine
end

