-- ==== Sys2Proof/Machine/RegisterAccess.lean ====
section
/-! DEFINITION. The Register Access Layer: VALIDATE_ADDRESS, ADDRESS_NAME, READ_REGISTER, WRITE_REGISTER (R60 to R70). -/

namespace Sys2Proof.Machine

/-- VALIDATE_ADDRESS (R60). -/
def execValidateAddress (addr : Int) (s : State) : Host.Outcome State Fault Refusal :=
  .next (if validAddress addr then s.succeed 0 0 else s.raise .invalidAddress 0 0)

/-- ADDRESS_NAME (R62): the name id in `data`; "It never fails". -/
def execAddressName (addr : Int) (s : State) : Host.Outcome State Fault Refusal :=
  .next (s.succeed (addressNameId addr) 0)

/-- READ_REGISTER (R64). -/
def execReadRegister (addr : Int) (s : State) : Host.Outcome State Fault Refusal :=
  .next (runRead addr s)

/-- WRITE_REGISTER (R68). -/
def execWriteRegister (addr value : Int) (s : State) : Host.Outcome State Fault Refusal :=
  .next (runWrite addr value s)

end Sys2Proof.Machine
end

