-- ==== Sys2Proof/Machine/Facade.lean ====
section
/-! DEFINITION. The Sensor Facade: three temperature reads (R100 to R103), eight passthrough reads (R104 to R112), four
passthrough writes (R113 to R117). -/

namespace Sys2Proof.Machine

/-- READ_TEMP(AI, AF) (R100): the second read is "issued whether or not r1 failed", the decode "always runs". A call
that is never answered leaves the command waiting there (R168). -/
def runReadTemp (addrInt addrFract : Int) (s : State) : State :=
  match readAccess addrInt s with
  | (.waiting q, t) => t.wait q
  | (.done r1, t) =>
    match readAccess addrFract t with
    | (.waiting q, u) => u.wait q
    | (.done r2, u) => u.respond (temperatureResponse r1 r2 (decodePort r1.data r2.data))

/-- READ_TEMP_INT (R101): `READ_TEMP(0x00, 0x29)`. -/
def execReadTempInt (s : State) : Host.Outcome State Fault Refusal :=
  .next (runReadTemp regInternalInt regInternalFract s)

/-- READ_TEMP_EXT1 (R102): `READ_TEMP(0x01, 0x10)`. -/
def execReadTempExt1 (s : State) : Host.Outcome State Fault Refusal :=
  .next (runReadTemp regExternal1Int regExternal1Fract s)

/-- READ_TEMP_EXT2 (R103): `READ_TEMP(0x23, 0x24)`. -/
def execReadTempExt2 (s : State) : Host.Outcome State Fault Refusal :=
  .next (runReadTemp regExternal2Int regExternal2Fract s)

/-- READ_STATUS (R105): `READ_REGISTER(0x02)`. -/
def execReadStatus (s : State) : Host.Outcome State Fault Refusal := .next (runRead regStatus s)

/-- READ_CONFIG0 (R106): `READ_REGISTER(0x03)`. -/
def execReadConfig0 (s : State) : Host.Outcome State Fault Refusal := .next (runRead regConfig0 s)

/-- READ_CONFIG1 (R107): `READ_REGISTER(0x09)`. -/
def execReadConfig1 (s : State) : Host.Outcome State Fault Refusal := .next (runRead regConfig1 s)

/-- READ_CONV_RATE0 (R108): `READ_REGISTER(0x04)`. -/
def execReadConvRate0 (s : State) : Host.Outcome State Fault Refusal := .next (runRead regConvRate0 s)

/-- READ_CONV_RATE1 (R109): `READ_REGISTER(0x0A)`. -/
def execReadConvRate1 (s : State) : Host.Outcome State Fault Refusal := .next (runRead regConvRate1 s)

/-- READ_PRODUCT_ID (R110): `READ_REGISTER(0xFD)`. -/
def execReadProductId (s : State) : Host.Outcome State Fault Refusal := .next (runRead regProductId s)

/-- READ_MANUFACTURER_ID (R111): `READ_REGISTER(0xFE)`. -/
def execReadManufacturerId (s : State) : Host.Outcome State Fault Refusal := .next (runRead regManufacturerId s)

/-- READ_REVISION (R112): `READ_REGISTER(0xFF)`. -/
def execReadRevision (s : State) : Host.Outcome State Fault Refusal := .next (runRead regRevision s)

/-- WRITE_CONFIG0 (R114): `WRITE_REGISTER(0x03, value)`. -/
def execWriteConfig0 (value : Int) (s : State) : Host.Outcome State Fault Refusal :=
  .next (runWrite regConfig0 value s)

/-- WRITE_CONFIG1 (R115): `WRITE_REGISTER(0x09, value)`. -/
def execWriteConfig1 (value : Int) (s : State) : Host.Outcome State Fault Refusal :=
  .next (runWrite regConfig1 value s)

/-- WRITE_CONV_RATE0 (R116): `WRITE_REGISTER(0x04, value)`. -/
def execWriteConvRate0 (value : Int) (s : State) : Host.Outcome State Fault Refusal :=
  .next (runWrite regConvRate0 value s)

/-- WRITE_CONV_RATE1 (R117): `WRITE_REGISTER(0x0A, value)`. -/
def execWriteConvRate1 (value : Int) (s : State) : Host.Outcome State Fault Refusal :=
  .next (runWrite regConvRate1 value s)

end Sys2Proof.Machine
end

