-- ==== Sys2Proof/Machine/Dispatch.lean ====
section
/-! DEFINITION. One arm per command: the meaning it has. -/

namespace Sys2Proof.Machine

def exec (i : Instr) (s : State) : Host.Outcome State Fault Refusal :=
  match i with
  | .validateAddress addr => Sys2Proof.Machine.execValidateAddress addr s
  | .addressName addr => Sys2Proof.Machine.execAddressName addr s
  | .readRegister addr => Sys2Proof.Machine.execReadRegister addr s
  | .writeRegister addr value => Sys2Proof.Machine.execWriteRegister addr value s
  | .decode intByte fractByte => Sys2Proof.Machine.execDecode intByte fractByte s
  | .readTempInt => Sys2Proof.Machine.execReadTempInt s
  | .readTempExt1 => Sys2Proof.Machine.execReadTempExt1 s
  | .readTempExt2 => Sys2Proof.Machine.execReadTempExt2 s
  | .readStatus => Sys2Proof.Machine.execReadStatus s
  | .readConfig0 => Sys2Proof.Machine.execReadConfig0 s
  | .readConfig1 => Sys2Proof.Machine.execReadConfig1 s
  | .readConvRate0 => Sys2Proof.Machine.execReadConvRate0 s
  | .readConvRate1 => Sys2Proof.Machine.execReadConvRate1 s
  | .readProductId => Sys2Proof.Machine.execReadProductId s
  | .readManufacturerId => Sys2Proof.Machine.execReadManufacturerId s
  | .readRevision => Sys2Proof.Machine.execReadRevision s
  | .writeConfig0 value => Sys2Proof.Machine.execWriteConfig0 value s
  | .writeConfig1 value => Sys2Proof.Machine.execWriteConfig1 value s
  | .writeConvRate0 value => Sys2Proof.Machine.execWriteConvRate0 value s
  | .writeConvRate1 value => Sys2Proof.Machine.execWriteConvRate1 value s
  | .setDebug level => Sys2Proof.Machine.execSetDebug level s

end Sys2Proof.Machine
end

