-- ==== Sys2Proof/Machine/Step.lean ====
section
/-! DEFINITION. One step of the block: one reset, or one command from acceptance to response, or nothing (R5, R164). -/

namespace Sys2Proof.Machine

/-- One transaction (R163: "one command in, its adapter calls, one response out").
Reset comes first (R160). A busy block "accepts nothing" (R164, R168). Without a command "the block never acts"
(R146). A word that decodes runs its command; a word that does not gets IllegalCommand (R148). -/
def step (s : State) : Host.Outcome State Fault Refusal :=
  if s.rst then .next s.applyReset
  else
    match s.inFlight with
    | some _ => .next s
    | none =>
      match s.requester with
      | [] => .next s
      | w :: _ =>
        match decode w with
        | .ok i => exec i s.accept
        | .error _ => .next s.accept.illegalCommand

/-- `s` with the table's word on the command port, the block idle and `rst` low, so that the next step accepts and
runs it (log 17). A program comes from outside: the requester presents its words (R11; log 1). -/
def State.withFetchWord (s : State) (nbits w : Nat) : State :=
  { s with rst := false, inFlight := none, requester := wordOfTable nbits w :: s.requester.tail }

end Sys2Proof.Machine
end

