-- ==== Sys2Proof/Machine/Ports.lean ====
section
/-! DEFINITION. The numeric images at the ports (R13, R43 to R45, R163) of what State holds as named types. -/

namespace Sys2Proof.Machine

/-- The numeric code of an outcome kind, 3 bits (R44). -/
def Kind.code : Kind → BitVec 3
  | .ok => 0
  | .invalidAddress => 1
  | .busError => 2
  | .shortRead => 3
  | .illegalCommand => 4

/-- DBG's 2 bits: "0 none, 1 info, 2 detailed, 3 never held" (R13). -/
def dbgBits : DebugLevel → BitVec 2
  | .none => 0
  | .info => 1
  | .detailed => 2

/-- A request at the adapter port (R45). `w1` is absent when `wlen = 1`: "`w1` is meaningful only when `wlen = 2`" (log 16). -/
structure PortRequest where
  call : BitVec 1
  wlen : Nat
  w0 : Byte
  w1 : Option Byte
  rlen : Nat
  deriving DecidableEq, Repr

/-- The port image of a request (R45, R46). A request that is neither frame has none; the block makes no such
request (R27, "No other frame exists"). -/
def requestPort : AdapterRequest → Option PortRequest
  | .write [a, v] => some { call := 0, wlen := 2, w0 := a, w1 := some v, rlen := 0 }
  | .writeThenRead [a] 1 => some { call := 1, wlen := 1, w0 := a, w1 := none, rlen := 1 }
  | .write _ => none
  | .writeThenRead _ _ => none

/-- `rcount` of a reply (R45): the number of bytes it carries. -/
def AdapterReply.rcount (r : AdapterReply) : Nat := r.rbytes.length

/-- The response record with every field at its width (R43). -/
structure PortResponse where
  kind : BitVec 3
  code : BitVec 32
  data : BitVec 8
  kind2 : BitVec 3
  code2 : BitVec 32
  data2 : BitVec 8
  failed : BitVec 1
  temp : BitVec 32
  deriving DecidableEq, Repr

/-- The port image of a response (R43, R44). -/
def Response.port (r : Response) : PortResponse where
  kind := r.kind.code
  code := r.code
  data := r.data
  kind2 := r.kind2.code
  code2 := r.code2
  data2 := r.data2
  failed := BitVec.ofBool r.failed
  temp := r.temp

/-- The command port's `ready`: "The block accepts a command only when it is idle" (R163, R164). -/
def State.ready (s : State) : Bool := s.inFlight.isNone && !s.rst

end Sys2Proof.Machine
end

