-- ==== Sys2Proof/Safety.lean ====
section
/-! DEFINITION. The notions claims are stated in: the frames a command makes, coherent responses, the invariant of the
machine, states that differ only in the debug level. -/

namespace Sys2Proof.Machine

/-- "every entry is either `write_then_read([a], 1)` or `write([a, v])`" (20_memory.md after R27). -/
def isFrame : AdapterRequest → Bool
  | .writeThenRead [_] 1 => true
  | .write [_, _] => true
  | .writeThenRead _ _ => false
  | .write _ => false

/-- The frame of one register read: none for an address outside 0 to 255, which "fails without touching the
transport" (R26, R64, R65). -/
def readFrames (addr : Int) : List AdapterRequest :=
  if 0 ≤ addr ∧ addr ≤ 255 then [.writeThenRead [BitVec.ofInt 8 addr] 1] else []

/-- The frame of one register write, the address byte first (R27, R68). -/
def writeFrames (addr value : Int) : List AdapterRequest :=
  if 0 ≤ addr ∧ addr ≤ 255 then [.write [BitVec.ofInt 8 addr, BitVec.ofInt 8 (value % 256)]] else []

/-- The adapter calls a command makes when every call is answered, in order (R31, R171; the addresses are R22's). -/
def commandFrames : Instr → List AdapterRequest
  | .validateAddress _ => []
  | .addressName _ => []
  | .readRegister addr => readFrames addr
  | .writeRegister addr value => writeFrames addr value
  | .decode _ _ => []
  | .readTempInt => [.writeThenRead [0x00] 1, .writeThenRead [0x29] 1]
  | .readTempExt1 => [.writeThenRead [0x01] 1, .writeThenRead [0x10] 1]
  | .readTempExt2 => [.writeThenRead [0x23] 1, .writeThenRead [0x24] 1]
  | .readStatus => [.writeThenRead [0x02] 1]
  | .readConfig0 => [.writeThenRead [0x03] 1]
  | .readConfig1 => [.writeThenRead [0x09] 1]
  | .readConvRate0 => [.writeThenRead [0x04] 1]
  | .readConvRate1 => [.writeThenRead [0x0A] 1]
  | .readProductId => [.writeThenRead [0xFD] 1]
  | .readManufacturerId => [.writeThenRead [0xFE] 1]
  | .readRevision => [.writeThenRead [0xFF] 1]
  | .writeConfig0 value => [.write [0x03, BitVec.ofInt 8 (value % 256)]]
  | .writeConfig1 value => [.write [0x09, BitVec.ofInt 8 (value % 256)]]
  | .writeConvRate0 value => [.write [0x04, BitVec.ofInt 8 (value % 256)]]
  | .writeConvRate1 value => [.write [0x0A, BitVec.ofInt 8 (value % 256)]]
  | .setDebug _ => []

/-- What every response the block produces satisfies (R43, R44, R100): `failed` follows from the kinds, a code stands
beside BusError only, and only a register read's outcome stands in the second half. -/
structure Response.Coherent (r : Response) : Prop where
  failed_iff : r.failed = true ↔ r.kind ≠ .ok ∨ r.kind2 ≠ .ok
  code_iff : r.code ≠ 0 ↔ r.kind = .busError
  code2_iff : r.code2 ≠ 0 ↔ r.kind2 = .busError
  kind2_read : r.kind2 = .ok ∨ r.kind2 = .busError ∨ r.kind2 = .shortRead
  second_only_after_read : r.kind = .invalidAddress ∨ r.kind = .illegalCommand →
    r.kind2 = .ok ∧ r.data2 = 0 ∧ r.temp = 0

/-- The invariant of the machine: the trace holds frames only and goes to the handle's adapter and device (R15, R27);
the counter of the free answers counts the calls; a command in progress waits for the last call made (R31, R164);
every response is coherent (R43, R44). -/
structure State.Inv (s : State) : Prop where
  frames_only : ∀ c ∈ s.trace, isFrame c.request = true
  to_handle : ∀ c ∈ s.trace, c.bus = s.handle.bus ∧ c.devAddr = s.handle.devAddr
  counted : s.calls = s.trace.length
  outstanding : ∀ q, s.inFlight = some q → s.trace.getLast? = some (s.callTo q)
  coherent : ∀ r ∈ s.responses, r.Coherent

/-- The same state but for DBG and the diagnostic output, "purely observational" (R13, R132). -/
def SameButDebug (s t : State) : Prop :=
  { s with dbg := t.dbg, diagnostics := t.diagnostics } = t

end Sys2Proof.Machine
end

