-- ==== Sys2Proof/Certificates/Slice0/Obligations.lean ====
section
/-! DEFINITION. The statements about the block. Each docstring names the rule of spec/ it formalises; where a clause
rests on one of the spec's own decisions D<n> or on a choice of the model, it says so. -/

namespace Sys2Proof.Claims

open Sys2Proof.Machine

/-- `addr` lies in 0 to 255 (R60). -/
abbrev InRange (addr : Int) : Prop := 0 ≤ addr ∧ addr ≤ 255

/-- `s` after one register access whose frame is `q`: the call is in the trace, its answer is used up, messages may
have been emitted (which, and when, is log 8's free list). Nothing else differs. -/
def afterAccess (operation : RegisterOperation) (addr : Int) (q : AdapterRequest) (s : State) : State :=
  { s with
    answers := s.answers.tail
    calls := s.calls + 1
    trace := s.trace ++ [⟨s.handle.bus, s.handle.devAddr, q⟩]
    accesses := s.accesses + 1
    diagnostics := s.diagnostics ++ s.emission operation addr }

/-- `s` after a register access that InvalidAddress ends at step 1: no call; messages may have been emitted
(R70; log 8). -/
def afterRefusedAccess (operation : RegisterOperation) (addr : Int) (s : State) : State :=
  { s with
    accesses := s.accesses + 1
    diagnostics := s.diagnostics ++ s.emission operation addr }

/-- `s` with one more response. -/
def withResponse (r : Response) (s : State) : State := { s with responses := s.responses ++ [r] }

/-- A response that sets `kind`, `code` and `data` only (R43). -/
def single (kind : Kind) (code : Status) (data : Byte) (failed : Bool) : Response :=
  ⟨kind, code, data, .ok, 0, 0, failed, 0⟩

/-- The outcome `(kind, code, data)` of a register read that was answered by `r` (R64, steps 3 to 5). -/
def readOutcome (r : AdapterReply) : Kind × Status × Byte :=
  if r.status ≠ 0 then (.busError, r.status, Config.errByte)
  else
    match r.rbytes with
    | [b] => (.ok, 0, b)
    | _ => (.shortRead, 0, Config.errByte)

/-- The read frame of an address (R46). -/
def readFrameOf (addr : Int) : AdapterRequest := .writeThenRead [BitVec.ofInt 8 addr] 1

/-- The write frame of an address and a value (R46, R48). -/
def writeFrameOf (addr value : Int) : AdapterRequest := .write [BitVec.ofInt 8 addr, BitVec.ofInt 8 (value % 256)]

/-- The bits of the command word a command's format reads, with the opcode (R41). -/
def readMask : Instr → CommandWord
  | .validateAddress _ => 0xFFFFFF0000
  | .addressName _ => 0xFFFFFF0000
  | .readRegister _ => 0xFFFFFF0000
  | .writeRegister _ _ => 0xFFFFFFFFFF
  | .decode _ _ => 0xFF00FF00FF
  | .readTempInt => 0xFF00000000
  | .readTempExt1 => 0xFF00000000
  | .readTempExt2 => 0xFF00000000
  | .readStatus => 0xFF00000000
  | .readConfig0 => 0xFF00000000
  | .readConfig1 => 0xFF00000000
  | .readConvRate0 => 0xFF00000000
  | .readConvRate1 => 0xFF00000000
  | .readProductId => 0xFF00000000
  | .readManufacturerId => 0xFF00000000
  | .readRevision => 0xFF00000000
  | .writeConfig0 _ => 0xFF0000FFFF
  | .writeConfig1 _ => 0xFF0000FFFF
  | .writeConvRate0 _ => 0xFF0000FFFF
  | .writeConvRate1 _ => 0xFF0000FFFF
  | .setDebug _ => 0xFF00000003

/-- The 21 opcodes of R42. -/
def opcodes : List (BitVec 8) :=
  [0x00, 0x01, 0x02, 0x03, 0x10, 0x20, 0x21, 0x22, 0x30, 0x31, 0x32, 0x33, 0x34, 0x35, 0x36, 0x37, 0x40, 0x41, 0x42,
   0x43, 0x50]

/-- The raw field on natural numbers: the integer byte over the top three bits of the fractional byte (R47). -/
def rawNat (intByte fractByte : Byte) : Nat := 8 * intByte.toNat + fractByte.toNat / 32

/-- The magnitude on natural numbers: "2048 - raw for raw from 1024 to 2047" (R82). -/
def magnitudeNat (raw : Nat) : Nat := if 1024 ≤ raw then 2048 - raw else raw

/-- `8 * T` from the raw field: `magnitude / 8` whole degrees, `magnitude mod 4` eighths, and the sign (R80, R84). -/
def eighthsOf (raw : Nat) : Int :=
  let m : Int := 8 * (magnitudeNat raw / 8 : Nat) + (magnitudeNat raw % 4 : Nat)
  if 1024 ≤ raw then -m else m

/-- `8 * S`, the two's-complement value of the raw field, which the block does not return (R87 item 4, R88). -/
def twosComplement (raw : Nat) : Int := if 1024 ≤ raw then (raw : Int) - 2048 else raw

/-- The eight passthrough reads with opcode and fixed address (R105 to R112). -/
def passthroughReads : List (Instr × BitVec 8 × Int) :=
  [(.readStatus, 0x30, 0x02), (.readConfig0, 0x31, 0x03), (.readConfig1, 0x32, 0x09), (.readConvRate0, 0x33, 0x04),
   (.readConvRate1, 0x34, 0x0A), (.readProductId, 0x35, 0xFD), (.readManufacturerId, 0x36, 0xFE),
   (.readRevision, 0x37, 0xFF)]

/-- The four passthrough writes with opcode and fixed address (R114 to R117). -/
def passthroughWrites : List ((Int → Instr) × BitVec 8 × Int) :=
  [(.writeConfig0, 0x40, 0x03), (.writeConfig1, 0x41, 0x09), (.writeConvRate0, 0x42, 0x04),
   (.writeConvRate1, 0x43, 0x0A)]

/-- The three temperature reads with opcode and both fixed addresses (R101 to R103). -/
def temperatureReads : List (Instr × BitVec 8 × Int × Int) :=
  [(.readTempInt, 0x20, 0x00, 0x29), (.readTempExt1, 0x21, 0x01, 0x10), (.readTempExt2, 0x22, 0x23, 0x24)]

end Sys2Proof.Claims

open Sys2Proof Sys2Proof.Machine Sys2Proof.Claims

/-! ### Encoding (the command word is the spec's own: D3, D4, D5) -/

/-- 30_encoding.md section 1: a well-formed command's word decodes to the command, every operand at every value. -/
def Obligations.DecodeOfEncodeIsTheCommand : Prop :=
  ∀ i : Instr, i.wellFormed = true → decode (encode i) = .ok i

/-- 30_encoding.md section 1: what is decoded is well formed, and its encoding gives back every bit of the word its
format reads; the encoder writes 0 elsewhere (model's choice, log 15). -/
def Obligations.DecodedCommandGivesBackTheBitsItReads : Prop :=
  ∀ (w : CommandWord) (i : Instr), decode w = .ok i → i.wellFormed = true ∧ encode i = w &&& readMask i

/-- 30_encoding.md sections 1 and 6: a word is refused exactly when its opcode is none of the 21, the refusal names
that opcode, and 235 opcodes are refused. -/
def Obligations.RefusedOpcodesAreTheOther235 : Prop :=
  (∀ w : CommandWord, opField w ∉ opcodes ↔ decode w = .error (.illegalOpcode (opField w))) ∧
  (∀ (w : CommandWord) (e : DecodeError), decode w = .error e → e = .illegalOpcode (opField w)) ∧
  ((List.range 256).filter fun n => !(opcodes.contains (BitVec.ofNat 8 n))).length = 235

/-- 95_test_vectors.md section 2: written-out words of every family decode to the commands they stand for. -/
def Obligations.WrittenOutWordsDecode : Prop :=
  decode 0x00FFFF0000 = .ok (.validateAddress (-1)) ∧
  decode 0x000005BEEF = .ok (.validateAddress 5) ∧
  decode 0x0100290000 = .ok (.addressName 0x29) ∧
  decode 0x0201000000 = .ok (.readRegister 0x100) ∧
  decode 0x03000301FF = .ok (.writeRegister 0x03 0x1FF) ∧
  decode 0x10AB19CD5A = .ok (.decode 0x19 0x5A) ∧
  decode 0x2100000000 = .ok .readTempExt1 ∧
  decode 0x3600000000 = .ok .readManufacturerId ∧
  decode 0x4300000106 = .ok (.writeConvRate1 0x106) ∧
  decode 0x50FFFFFFFE = .ok (.setDebug 2) ∧
  decode 0x0400010002 = .error (.illegalOpcode 0x04)

/-! ### The step -/

/-- R5, R164: an idle block with `rst` low takes the presented word; where it decodes, the step is that command run on
the state without the word. -/
def Obligations.StepRunsTheDecodedCommand : Prop :=
  ∀ (s : State) (w : CommandWord) (rest : List CommandWord) (i : Instr),
    s.rst = false → s.inFlight = none → s.requester = w :: rest → decode w = .ok i →
    step s = exec i { s with requester := rest }

/-- 30_encoding.md section 6 (a) and (b), 60_exceptions.md section 6 (D6): an opcode outside the map, and SET_DEBUG
with level 3, get `kind = IllegalCommand`, "all other fields 0", no call and no change of state. -/
def Obligations.IllegalCommandsAreAnsweredWithoutEffect : Prop :=
  (∀ (s : State) (w : CommandWord) (rest : List CommandWord) (e : DecodeError),
    s.rst = false → s.inFlight = none → s.requester = w :: rest → decode w = .error e →
    step s = .next (withResponse (single .illegalCommand 0 0 true) { s with requester := rest })) ∧
  (∀ s : State, exec (.setDebug 3) s = .next (withResponse (single .illegalCommand 0 0 true) s))

/-- 60_exceptions.md section 4 (R146): "The block never acts without a command." That rule speaks of an idle block, and
that an empty list of words means no command is log 1's choice. The statement also covers a block with a command in
progress, of which R146 does not speak: that it changes nothing there is the model's choice (log 6, DEDUCED: its adapter
never replies, so no late reply ends the command). -/
def Obligations.WithoutACommandTheBlockDoesNothing : Prop :=
  ∀ s : State, s.rst = false → s.requester = [] → step s = .next s

/-- 70_reset_and_hazards.md section 3 (R168: "If the adapter never replies, ... only reset ends that state"). The
model's choice (log 6, DEDUCED): a command in progress in the model is one whose adapter never replies, so no late reply
ends it. On that reading a waiting block changes nothing and accepts nothing, and only reset ends the wait. Of a hardware
whose adapter replies late the statement says nothing. -/
def Obligations.AWaitingBlockStaysBusyUntilReset : Prop :=
  (∀ (s : State) (q : AdapterRequest), s.inFlight = some q → s.rst = false → step s = .next s) ∧
  (∀ (s t : State) (q : AdapterRequest),
    s.inFlight = some q → step s = .next t → t.inFlight = none → s.rst = true)

/-- 70_reset_and_hazards.md section 1 (D2, D22): reset makes DBG none, abandons the command in progress without a
response, leaves no call outstanding, sends nothing and keeps the handle. That the step consumes the `rst` pulse and
keeps the inputs is the model's choice (log 7). -/
def Obligations.ResetAbandonsTheCommandInProgress : Prop :=
  ∀ s : State, s.rst = true → step s = .next { s with dbg := .none, inFlight := none, rst := false }

/-- 10_state.md "Reset values in one place" (D2, D22): DBG none, no command in progress, no call made, the handle at
its instantiation constants. The empty ports are the model's choice (log 1, 3, 7, 8, 9). -/
def Obligations.ResetStateIsIdleAtLevelNone : Prop :=
  State.reset.dbg = .none ∧ State.reset.inFlight = none ∧ State.reset.trace = [] ∧ State.reset.responses = [] ∧
  State.reset.handle = Config.handle ∧ State.reset.rst = false

/-- R147: "No failure is fatal": every step, from every state, answers a next state. -/
def Obligations.EveryStepAnswersANextState : Prop := ∀ s : State, ∃ t, step s = .next t

/-- The state after reset meets the invariant. -/
def Obligations.ResetStateMeetsTheInvariant : Prop := State.reset.Inv

/-- 20_memory.md section 4, 30_encoding.md section 2: from every state that meets the invariant a step gives one that
meets it: only the two frames go out, to the handle's adapter and device; a waiting command waits for the last call
made; every response's `failed`, `code` and `code2` agree with its kinds. -/
def Obligations.EveryStepKeepsTheInvariant : Prop :=
  ∀ s t : State, s.Inv → step s = .next t → t.Inv

/-! ### Register Access Layer -/

/-- R60: VALIDATE_ADDRESS fails exactly outside 0 to 255, makes no call, writes no state; and the same check, with the
same outcome, is step 1 of READ_REGISTER and of WRITE_REGISTER. -/
def Obligations.ValidateAddressChecksTheRange : Prop :=
  (∀ w : CommandWord, opField w = 0x00 → decode w = .ok (.validateAddress (aField w).toInt)) ∧
  (∀ (addr : Int) (s : State), InRange addr →
    exec (.validateAddress addr) s = .next (withResponse (single .ok 0 0 false) s)) ∧
  (∀ (addr : Int) (s : State), ¬ InRange addr →
    exec (.validateAddress addr) s = .next (withResponse (single .invalidAddress 0 0 true) s)) ∧
  (∀ (addr value : Int) (s : State), ¬ InRange addr →
    exec (.readRegister addr) s =
      .next (withResponse (single .invalidAddress 0 Config.errByte true) (afterRefusedAccess .read addr s)) ∧
    exec (.writeRegister addr value) s =
      .next (withResponse (single .invalidAddress 0 0 true) (afterRefusedAccess .write addr s))) ∧
  (∀ (addr value : Int) (s t : State), InRange addr →
    (exec (.readRegister addr) s = .next t → t.trace = s.trace ++ [s.callTo (readFrameOf addr)]) ∧
    (exec (.writeRegister addr value) s = .next t → t.trace = s.trace ++ [s.callTo (writeFrameOf addr value)]))

/-- 40_register_access.md, ADDRESS_NAME (D20, D21): the id of each of the 14 documented addresses, 14 for every other
integer; never a failure, no call, no state. -/
def Obligations.AddressNameAnswersTheNameId : Prop :=
  ∀ (addr : Int) (s : State),
    exec (.addressName addr) s =
      .next (withResponse
        (single .ok 0
          (if addr = 0x00 then 0 else if addr = 0x29 then 1 else if addr = 0x01 then 2 else if addr = 0x10 then 3
           else if addr = 0x23 then 4 else if addr = 0x24 then 5 else if addr = 0x02 then 6
           else if addr = 0x03 then 7 else if addr = 0x09 then 8 else if addr = 0x04 then 9
           else if addr = 0x0A then 10 else if addr = 0xFD then 11 else if addr = 0xFE then 12
           else if addr = 0xFF then 13 else 14)
          false) s)

/-- 40_register_access.md, ADDRESS_NAME: every integer has a non-empty name, the two strings the source gives stand
as printed, equal ids name equal strings, and exactly 14 addresses of 0 to 255 have an id below 14. -/
def Obligations.EveryAddressHasANonEmptyName : Prop :=
  (∀ addr : Int, addressNameText addr ≠ "") ∧
  addressNameText 0x00 = "internal diode temperature, integer part" ∧
  (∀ addr : Int, addressNameId addr = 14 ↔ addressNameText addr = "other/unknown") ∧
  (∀ a b : Int, addressNameId a = addressNameId b ↔ addressNameText a = addressNameText b) ∧
  ((List.range 256).filter fun n => decide (addressNameId (n : Int) ≠ 14)).length = 14

/-- R64, R65, R66: the five steps of READ_REGISTER in order. Outside 0 to 255: InvalidAddress, no call. Inside, one
call `write_then_read([addr], 1)`; a nonzero status is BusError whatever the bytes; else any count but 1 is ShortRead;
else the byte. On every failure `data` is ERR_BYTE, a free constant: the claim holds for every value of it (log 4). -/
def Obligations.ReadRegisterAnswersInTheOrderOfItsSteps : Prop :=
  (∀ w : CommandWord, opField w = 0x02 → decode w = .ok (.readRegister (aField w).toInt)) ∧
  ∀ (addr : Int) (s : State),
    (¬ InRange addr →
      exec (.readRegister addr) s =
        .next (withResponse (single .invalidAddress 0 Config.errByte true) (afterRefusedAccess .read addr s))) ∧
    (∀ r : AdapterReply, InRange addr → s.answerTo (readFrameOf addr) = .reply r → r.status ≠ 0 →
      exec (.readRegister addr) s =
        .next (withResponse (single .busError r.status Config.errByte true)
          (afterAccess .read addr (readFrameOf addr) s))) ∧
    (∀ r : AdapterReply, InRange addr → s.answerTo (readFrameOf addr) = .reply r → r.status = 0 →
      r.rbytes.length ≠ 1 →
      exec (.readRegister addr) s =
        .next (withResponse (single .shortRead 0 Config.errByte true)
          (afterAccess .read addr (readFrameOf addr) s))) ∧
    (∀ (r : AdapterReply) (b : Byte), InRange addr → s.answerTo (readFrameOf addr) = .reply r → r.status = 0 →
      r.rbytes = [b] →
      exec (.readRegister addr) s =
        .next (withResponse (single .ok 0 b false) (afterAccess .read addr (readFrameOf addr) s)))

/-- R68: the four steps of WRITE_REGISTER in order. Outside 0 to 255: InvalidAddress whatever the value, no call.
Inside, one call `write([addr, value mod 256])`; the status decides between BusError and OK; `data` is 0. -/
def Obligations.WriteRegisterSendsTheMaskedValue : Prop :=
  (∀ w : CommandWord, opField w = 0x03 → decode w = .ok (.writeRegister (aField w).toInt (bField w).toNat)) ∧
  ∀ (addr value : Int) (s : State),
    (¬ InRange addr →
      exec (.writeRegister addr value) s =
        .next (withResponse (single .invalidAddress 0 0 true) (afterRefusedAccess .write addr s))) ∧
    (∀ r : AdapterReply, InRange addr → s.answerTo (writeFrameOf addr value) = .reply r → r.status ≠ 0 →
      exec (.writeRegister addr value) s =
        .next (withResponse (single .busError r.status 0 true)
          (afterAccess .write addr (writeFrameOf addr value) s))) ∧
    (∀ r : AdapterReply, InRange addr → s.answerTo (writeFrameOf addr value) = .reply r → r.status = 0 →
      exec (.writeRegister addr value) s =
        .next (withResponse (single .ok 0 0 false) (afterAccess .write addr (writeFrameOf addr value) s)))

/-- R46, R48: for an address in range the first byte of the frame is the address, and the byte written is the value
modulo 256, for every integer: -1 gives 0xFF. -/
def Obligations.FrameBytesAreAddressAndMaskedValue : Prop :=
  (∀ addr : Int, InRange addr →
    ∃ a : Byte, readFrame addr = .writeThenRead [a] 1 ∧ (a.toNat : Int) = addr ∧
      ∀ value : Int, ∃ v : Byte, writeFrame addr value = .write [a, v] ∧ (v.toNat : Int) = value % 256) ∧
  maskValue (-1) = 0xFF ∧ maskValue 0x1FF = 0xFF

/-- R20, R63: no address of 0 to 255 is special: answered alike, reads of any two addresses give the same response,
and so do writes. -/
def Obligations.NamedAndUnnamedAddressesAreTreatedAlike : Prop :=
  ∀ (a b value : Int) (s t u : State) (r : AdapterReply), InRange a → InRange b →
    s.answers = .reply r :: s.answers.tail →
    (exec (.readRegister a) s = .next t → exec (.readRegister b) s = .next u → t.responses = u.responses) ∧
    (exec (.writeRegister a value) s = .next t → exec (.writeRegister b value) s = .next u → t.responses = u.responses)

/-! ### Temperature Codec -/

/-- 41_temperature_codec.md, DECODE (R80, R85): opcode 0x10 reads the low byte of each field; the answer is OK with the
temperature, the same from every state; no state is written, no call made; the 32 bits of `temp` stand for
`T = sign * (whole + eighths * 0.125)`, computed on integers from the two bytes. That the 32 bits are read as IEEE 754
binary32 is D13 and `binary32Value` (log 14, PRESUMED). -/
def Obligations.DecodeAnswersTheTemperature : Prop :=
  (∀ w : CommandWord, opField w = 0x10 →
    decode w = .ok (.decode ((aField w).extractLsb' 0 8) ((bField w).extractLsb' 0 8))) ∧
  ∀ intByte fractByte : Byte, ∃ temp : BitVec 32,
    binary32Value temp = (eighthsOf (rawNat intByte fractByte) : Rat) / 8 ∧
    ∀ s : State,
      exec (.decode intByte fractByte) s = .next (withResponse ⟨.ok, 0, 0, .ok, 0, 0, false, temp⟩ s)

/-- R82, R83 (and R81 for the raw field): the bit-level steps are the integer ones, the magnitude is at most 1024,
and "the mask makes the result independent" of the width the complement is taken at. -/
def Obligations.CodecStepsAreTheIntegerOnes : Prop :=
  ∀ intByte fractByte : Byte,
    (rawField intByte fractByte).toNat = rawNat intByte fractByte ∧
    (rawNegative (rawField intByte fractByte) = true ↔ 1024 ≤ rawNat intByte fractByte) ∧
    (magnitude (rawField intByte fractByte)).toNat = magnitudeNat (rawNat intByte fractByte) ∧
    (wholePart (magnitude (rawField intByte fractByte))).toNat = magnitudeNat (rawNat intByte fractByte) / 8 ∧
    (eighthsPart (magnitude (rawField intByte fractByte))).toNat = magnitudeNat (rawNat intByte fractByte) % 4 ∧
    magnitudeNat (rawNat intByte fractByte) ≤ 1024 ∧
    ∀ k : Nat, 11 ≤ k → rawNegative (rawField intByte fractByte) = true →
      ((~~~((rawField intByte fractByte).setWidth k) + 1) &&& BitVec.ofNat k 0x7FF).toNat =
        (magnitude (rawField intByte fractByte)).toNat

/-- 41_temperature_codec.md, step 4: `8 * T` is an integer from -1024 to 1019, reached at (0x80, 0x00) and at
(0x7F, 0x60), and `T` is `sign * (whole + eighths / 8)`. -/
def Obligations.TemperatureRangeIsMinus128ToPlus127And3Eighths : Prop :=
  (∀ intByte fractByte : Byte,
    (decodeTemperature intByte fractByte).inEighths = eighthsOf (rawNat intByte fractByte) ∧
    (decodeTemperature intByte fractByte).value = ((decodeTemperature intByte fractByte).inEighths : Rat) / 8 ∧
    -1024 ≤ (decodeTemperature intByte fractByte).inEighths ∧
    (decodeTemperature intByte fractByte).inEighths ≤ 1019) ∧
  (decodeTemperature 0x80 0x00).inEighths = -1024 ∧ (decodeTemperature 0x7F 0x60).inEighths = 1019 ∧
  (decodeTemperature 0x7F 0xE0).inEighths = 1019

/-- R81: `raw[10:3] = intByte`, `raw[2:0] = fractByte[7:5]`, `|` and `+` agree, and `fractByte[4:0]` has no effect. -/
def Obligations.LowFractionBitsHaveNoEffect : Prop :=
  ∀ intByte fractByte : Byte,
    (rawField intByte fractByte).extractLsb' 3 8 = intByte ∧
    (rawField intByte fractByte).extractLsb' 0 3 = fractByte.extractLsb' 5 3 ∧
    rawField intByte fractByte = (intByte.setWidth 11 <<< 3) + ((fractByte &&& 0xE0) >>> 5).setWidth 11 ∧
    ∀ s : State, exec (.decode intByte fractByte) s = exec (.decode intByte (fractByte &&& 0xE0)) s

/-- 41_temperature_codec.md, R87 item 4 (the spec's derived property): `T` equals the two's-complement value exactly
when bit 2 of the magnitude is 0; otherwise it falls short of it by half a degree in magnitude. -/
def Obligations.DecodeFallsShortOfTwosComplementByHalfADegree : Prop :=
  ∀ intByte fractByte : Byte,
    ((decodeTemperature intByte fractByte).inEighths = twosComplement (rawNat intByte fractByte) ↔
      (magnitude (rawField intByte fractByte)).getLsbD 2 = false) ∧
    ((magnitude (rawField intByte fractByte)).getLsbD 2 = true →
      (decodeTemperature intByte fractByte).inEighths =
        twosComplement (rawNat intByte fractByte) -
          (if (rawField intByte fractByte).getLsbD 10 then -4 else 4))

/-- 30_encoding.md section 5 (D14): the sign bit of `temp` is `intByte[7]`; negative zero arises exactly for
`intByte = 0xFF` with `fractByte` from 0x80 to 0x9F, positive zero exactly for raw 0x000 and 0x004. -/
def Obligations.NegativeZeroArisesForOneRawValueOnly : Prop :=
  ∀ intByte fractByte : Byte,
    (decodePort intByte fractByte).getLsbD 31 = intByte.getLsbD 7 ∧
    (decodePort intByte fractByte = 0x80000000 ↔
      intByte = 0xFF ∧ 0x80 ≤ fractByte.toNat ∧ fractByte.toNat ≤ 0x9F) ∧
    (decodePort intByte fractByte = 0x00000000 ↔
      rawNat intByte fractByte = 0x000 ∨ rawNat intByte fractByte = 0x004)

/-- 41_temperature_codec.md, R87 item 6 (the spec's derived property): two byte pairs whose raw fields add up to 2048
decode to temperatures that add up to 0, but for raw 0x400, which is its own partner. -/
def Obligations.DecodeIsOddButForTheMostNegativeValue : Prop :=
  ∀ i f i' f' : Byte, rawNat i f + rawNat i' f' = 2048 → rawNat i f ≠ 1024 →
    (decodeTemperature i f).value + (decodeTemperature i' f').value = 0

/-! ### Sensor Facade -/

/-- R101, R102, R103: each temperature read has its opcode, its two fixed addresses and both outcomes in full. The
second call goes out whatever the first one's outcome, the codec runs on both data bytes (ERR_BYTE, a free constant,
in place of one not obtained), `failed` is the logical OR (D17, D18). -/
def Obligations.TemperatureReadsMakeBothReadsAndDecode : Prop :=
  ∀ (i : Instr) (op : BitVec 8) (addrInt addrFract : Int), (i, op, addrInt, addrFract) ∈ temperatureReads →
    (∀ w : CommandWord, opField w = op → decode w = .ok i) ∧
    ∀ (s : State) (r1 r2 : AdapterReply),
      s.answerTo (readFrameOf addrInt) = .reply r1 →
      (afterAccess .read addrInt (readFrameOf addrInt) s).answerTo (readFrameOf addrFract) = .reply r2 →
      exec i s =
        .next (withResponse
          ⟨(readOutcome r1).1, (readOutcome r1).2.1, (readOutcome r1).2.2,
           (readOutcome r2).1, (readOutcome r2).2.1, (readOutcome r2).2.2,
           decide ((readOutcome r1).1 ≠ .ok ∨ (readOutcome r2).1 ≠ .ok),
           decodePort (readOutcome r1).2.2 (readOutcome r2).2.2⟩
          (afterAccess .read addrFract (readFrameOf addrFract)
            (afterAccess .read addrInt (readFrameOf addrInt) s)))

/-- R105 to R112: each passthrough read has its opcode and is READ_REGISTER at its fixed address; answered, it gives
that read's response after one call. -/
def Obligations.PassthroughReadsAreReadRegister : Prop :=
  ∀ (i : Instr) (op : BitVec 8) (addr : Int), (i, op, addr) ∈ passthroughReads →
    (∀ w : CommandWord, opField w = op → decode w = .ok i) ∧
    (∀ s : State, exec i s = exec (.readRegister addr) s) ∧
    ∀ (s : State) (r : AdapterReply), s.answerTo (readFrameOf addr) = .reply r →
      exec i s =
        .next (withResponse
          (single (readOutcome r).1 (readOutcome r).2.1 (readOutcome r).2.2 (decide ((readOutcome r).1 ≠ .ok)))
          (afterAccess .read addr (readFrameOf addr) s))

/-- R114 to R117: each passthrough write has its opcode and is WRITE_REGISTER at its fixed address; answered, it gives
that write's response after one call. -/
def Obligations.PassthroughWritesAreWriteRegister : Prop :=
  ∀ (c : Int → Instr) (op : BitVec 8) (addr : Int), (c, op, addr) ∈ passthroughWrites →
    (∀ w : CommandWord, opField w = op → decode w = .ok (c (bField w).toNat)) ∧
    (∀ (value : Int) (s : State), exec (c value) s = exec (.writeRegister addr value) s) ∧
    ∀ (value : Int) (s : State) (r : AdapterReply), s.answerTo (writeFrameOf addr value) = .reply r →
      exec (c value) s =
        .next (withResponse
          (if r.status = 0 then single .ok 0 0 false else single .busError r.status 0 true)
          (afterAccess .write addr (writeFrameOf addr value) s))

/-! ### Control -/

/-- 43_control.md, SET_DEBUG (D6, D22): levels 0, 1, 2 set DBG to none, info, detailed and answer OK, with no call. -/
def Obligations.SetDebugWritesTheLevel : Prop :=
  ∀ s : State,
    exec (.setDebug 0) s = .next (withResponse (single .ok 0 0 false) { s with dbg := .none }) ∧
    exec (.setDebug 1) s = .next (withResponse (single .ok 0 0 false) { s with dbg := .info }) ∧
    exec (.setDebug 2) s = .next (withResponse (single .ok 0 0 false) { s with dbg := .detailed })

/-! ### Waiting -/

/-- 70_reset_and_hazards.md section 3 (R168; that `never` is one of the answers is log 6): a register access whose call
is never answered leaves the command waiting for it, without a response; in a
temperature read this can happen at either call. -/
def Obligations.AnUnansweredCallLeavesTheCommandWaiting : Prop :=
  (∀ (addr : Int) (s : State), InRange addr → s.answerTo (readFrameOf addr) = .never →
    exec (.readRegister addr) s =
      .next { afterAccess .read addr (readFrameOf addr) s with inFlight := some (readFrameOf addr) }) ∧
  (∀ (addr value : Int) (s : State), InRange addr → s.answerTo (writeFrameOf addr value) = .never →
    exec (.writeRegister addr value) s =
      .next { afterAccess .write addr (writeFrameOf addr value) s with inFlight := some (writeFrameOf addr value) }) ∧
  (∀ (i : Instr) (op : BitVec 8) (addrInt addrFract : Int), (i, op, addrInt, addrFract) ∈ temperatureReads →
    ∀ s : State,
      (s.answerTo (readFrameOf addrInt) = .never →
        exec i s =
          .next { afterAccess .read addrInt (readFrameOf addrInt) s with inFlight := some (readFrameOf addrInt) }) ∧
      ∀ r1 : AdapterReply, s.answerTo (readFrameOf addrInt) = .reply r1 →
        (afterAccess .read addrInt (readFrameOf addrInt) s).answerTo (readFrameOf addrFract) = .never →
        exec i s =
          .next { afterAccess .read addrFract (readFrameOf addrFract)
                    (afterAccess .read addrInt (readFrameOf addrInt) s) with
                  inFlight := some (readFrameOf addrFract) })

/-! ### Frames and whole-machine rules -/

/-- R13: DBG is written by SET_DEBUG only. Stated of commands and of steps, where reset is the other cause. -/
def Obligations.OnlySetDebugAndResetChangeDbg : Prop :=
  (∀ (i : Instr) (s t : State), exec i s = .next t → t.dbg ≠ s.dbg → ∃ level, i = .setDebug level) ∧
  (∀ s t : State, step s = .next t → t.dbg ≠ s.dbg →
    s.rst = true ∨ ∃ w level, s.requester.head? = some w ∧ decode w = .ok (.setDebug level))

/-- Frame of the commands that touch no register (VALIDATE_ADDRESS, ADDRESS_NAME, DECODE, SET_DEBUG): nothing changes
but the list of responses, and DBG in the case of SET_DEBUG. -/
def Obligations.CommandsWithoutAccessChangeOnlyTheirResponse : Prop :=
  ∀ (i : Instr) (s t : State), exec i s = .next t →
    (∃ addr, i = .validateAddress addr) ∨ (∃ addr, i = .addressName addr) ∨ (∃ a b, i = .decode a b) ∨
      (∃ level, i = .setDebug level) →
    ∃ r, t = { s with responses := s.responses ++ [r], dbg := t.dbg } ∧ ((∀ level, i ≠ .setDebug level) → t.dbg = s.dbg)

/-- Frame of all commands: the handle, `rst` and what the requester presents are unchanged; trace, responses and
diagnostics only grow; the answers used up are as many as the calls made. -/
def Obligations.CommandsKeepHandleAndInputs : Prop :=
  ∀ (i : Instr) (s t : State), exec i s = .next t →
    t.handle = s.handle ∧ t.rst = s.rst ∧ t.requester = s.requester ∧
    s.trace <+: t.trace ∧ s.responses <+: t.responses ∧ s.diagnostics <+: t.diagnostics ∧
    (t.trace.length - s.trace.length = t.calls - s.calls) ∧ t.answers = s.answers.drop (t.calls - s.calls)

/-- 20_memory.md section 8, 70_reset_and_hazards.md section 4: a command that answers has made exactly its calls, in
order; one that waits has made its calls up to the one it waits for. -/
def Obligations.CommandsMakeExactlyTheirCallsInOrder : Prop :=
  ∀ (i : Instr) (s t : State), s.inFlight = none → exec i s = .next t →
    (t.inFlight = none → t.trace = s.trace ++ (commandFrames i).map s.callTo) ∧
    (∀ q, t.inFlight = some q → ∃ before after, commandFrames i = before ++ q :: after ∧
      t.trace = s.trace ++ (before ++ [q]).map s.callTo)

/-- R43, R164: a command from an idle block produces exactly one response, or waits and produces none. -/
def Obligations.ACommandProducesOneResponseOrWaits : Prop :=
  ∀ (i : Instr) (s t : State), s.inFlight = none → exec i s = .next t →
    (t.inFlight = none ∧ ∃ r, t.responses = s.responses ++ [r]) ∨
    (t.inFlight ≠ none ∧ t.responses = s.responses)

/-- 43_control.md, R132 (the spec's derived consequence): two machines that differ only in DBG and in what was emitted
step to machines that differ only so: the same responses, the same calls, the same everything else. -/
def Obligations.DebugLevelShowsInNothingButDiagnostics : Prop :=
  ∀ s t s' t' : State, SameButDebug s t → step s = .next s' → step t = .next t' → SameButDebug s' t'

/-- 43_control.md, Diagnostics: at level none a step emits nothing. This is "this spec's reading of the name 'none'"
(R132, `91_not_in_source.md` N6), not the source's word, and the model's choice by log 8 (DESIGN CHOICE). -/
def Obligations.NothingIsEmittedAtLevelNone : Prop :=
  ∀ s t : State, s.dbg = .none → step s = .next t → t.diagnostics = s.diagnostics

/-- R10, R18: no command has access to a result of an earlier one: replacing all that was answered, called and emitted
before changes neither the next state nor what the step adds. -/
def Obligations.EarlierResultsDoNotShow : Prop :=
  ∀ s t : State, step s = .next t →
    ∃ (calls : List AdapterCall) (answers : List Response) (messages : List String),
      ∀ (tr : List AdapterCall) (rs : List Response) (ds : List String),
        step { s with trace := tr, responses := rs, diagnostics := ds } =
          .next { t with trace := tr ++ calls, responses := rs ++ answers, diagnostics := ds ++ messages }

/-- 60_exceptions.md section 5 (R147), of READ_REGISTER and WRITE_REGISTER at an address in range whose call is answered:
whatever two replies the call gets, the two next states differ in their responses only. That the messages emitted are
the same too is the model's choice (log 8, DESIGN CHOICE: they do not depend on the outcome) and no part of R147.
The other failures (InvalidAddress, temperature reads, SET_DEBUG with level 3) are in
`AFailedCommandLeavesTheBlockAsItWas`. -/
def Obligations.AFailureLeavesTheStateOfASuccess : Prop :=
  ∀ (addr value : Int) (s t u : State) (r r' : AdapterReply) (rest : List AdapterAnswer), InRange addr →
    (exec (.readRegister addr) { s with answers := .reply r :: rest } = .next t →
      exec (.readRegister addr) { s with answers := .reply r' :: rest } = .next u →
      { t with responses := u.responses } = u) ∧
    (exec (.writeRegister addr value) { s with answers := .reply r :: rest } = .next t →
      exec (.writeRegister addr value) { s with answers := .reply r' :: rest } = .next u →
      { t with responses := u.responses } = u)

/-- 60_exceptions.md sections 2 and 5 (R144, R147): a command of any kind that ends with a failed response, whichever
failure it is, leaves DBG and the handle as they were and the block idle, and the next command is accepted and run as
usual. Nothing is said of the messages. -/
def Obligations.AFailedCommandLeavesTheBlockAsItWas : Prop :=
  ∀ (i : Instr) (s t : State) (r : Response), s.inFlight = none → exec i s = .next t →
    t.responses = s.responses ++ [r] → r.failed = true →
    t.dbg = s.dbg ∧ t.handle = s.handle ∧ t.inFlight = none ∧
    ∀ (w : CommandWord) (rest : List CommandWord) (j : Instr), t.rst = false → t.requester = w :: rest →
      decode w = .ok j → step t = exec j { t with requester := rest }

/-- 30_encoding.md section 2 (D1, D9, D10, D11): the port images of the two frames and of the outcome kinds. -/
def Obligations.PortImagesOfFramesAndKinds : Prop :=
  (∀ a : Byte, requestPort (.writeThenRead [a] 1) = some ⟨1, 1, a, none, 1⟩) ∧
  (∀ a v : Byte, requestPort (.write [a, v]) = some ⟨0, 2, a, some v, 0⟩) ∧
  (∀ q : AdapterRequest, isFrame q = true ↔ (requestPort q).isSome = true) ∧
  Kind.ok.code = 0 ∧ Kind.invalidAddress.code = 1 ∧ Kind.busError.code = 2 ∧ Kind.shortRead.code = 3 ∧
  Kind.illegalCommand.code = 4
end

