-- ==== Sys2Proof/Laws/Encoding.lean ====
section
/-! SUPPORT. The three fields of a packed word, and the operands of R41 read back from their fields. -/

namespace Sys2Proof

/-- The address operands a word carries (R41, D7). -/
theorem addrFits_iff (addr : Int) : addrFits addr = true ↔ -32768 ≤ addr ∧ addr ≤ 32767 := by
  rw [addrFits, Bool.and_eq_true, decide_eq_true_eq, decide_eq_true_eq]
  rfl

/-- The value operands a word carries (R41, D8). -/
theorem valueFits_iff (value : Int) : valueFits value = true ↔ 0 ≤ value ∧ value ≤ 65535 := by
  rw [valueFits, Bool.and_eq_true, decide_eq_true_eq, decide_eq_true_eq]
  rfl

/-- A packed word as a number (R40). -/
theorem toNat_packWord (op : BitVec 8) (a b : BitVec 16) :
    (packWord op a b).toNat = op.toNat * 2 ^ 32 + a.toNat * 2 ^ 16 + b.toNat := by
  have e : packWord op a b = ((op ++ a) ++ b : BitVec (8 + 16 + 16)) := rfl
  have ha := a.isLt
  have hb := b.isLt
  rw [e, BitVec.toNat_append, BitVec.toNat_append, ← Nat.shiftLeft_add_eq_or_of_lt (by omega),
    ← Nat.shiftLeft_add_eq_or_of_lt (by omega), Nat.shiftLeft_eq, Nat.shiftLeft_eq]
  omega

@[simp] theorem opField_packWord (op : BitVec 8) (a b : BitVec 16) : opField (packWord op a b) = op := by
  have := a.isLt; have := b.isLt; have := op.isLt
  apply BitVec.eq_of_toNat_eq
  simp only [opField, BitVec.extractLsb'_toNat, toNat_packWord, Nat.shiftRight_eq_div_pow]
  omega

@[simp] theorem aField_packWord (op : BitVec 8) (a b : BitVec 16) : aField (packWord op a b) = a := by
  have := a.isLt; have := b.isLt; have := op.isLt
  apply BitVec.eq_of_toNat_eq
  simp only [aField, BitVec.extractLsb'_toNat, toNat_packWord, Nat.shiftRight_eq_div_pow]
  omega

@[simp] theorem bField_packWord (op : BitVec 8) (a b : BitVec 16) : bField (packWord op a b) = b := by
  have := a.isLt; have := b.isLt; have := op.isLt
  apply BitVec.eq_of_toNat_eq
  simp only [bField, BitVec.extractLsb'_toNat, toNat_packWord, Nat.shiftRight_eq_div_pow]
  omega

/-- A word is its three fields (R40). -/
theorem packWord_fields (w : CommandWord) : packWord (opField w) (aField w) (bField w) = w := by
  have := w.isLt
  apply BitVec.eq_of_toNat_eq
  simp only [toNat_packWord, opField, aField, bField, BitVec.extractLsb'_toNat, Nat.shiftRight_eq_div_pow]
  omega

/-- `sext_16` gives back an address operand that fits (R41). -/
theorem toInt_ofInt_of_addrFits {addr : Int} (h : addrFits addr = true) : (BitVec.ofInt 16 addr).toInt = addr := by
  rw [addrFits_iff] at h
  rw [BitVec.toInt_ofInt, Int.bmod_def]
  split <;> omega

/-- `zext_16` gives back a value operand that fits (R41). -/
theorem toNat_ofInt_of_valueFits {value : Int} (h : valueFits value = true) :
    ((BitVec.ofInt 16 value).toNat : Int) = value := by
  rw [valueFits_iff] at h
  rw [BitVec.toNat_ofInt]
  omega

theorem addrFits_toInt (a : BitVec 16) : addrFits a.toInt = true := by
  have h1 := BitVec.le_toInt a
  have h2 := BitVec.toInt_lt (x := a)
  rw [addrFits_iff]
  omega

theorem valueFits_toNat (b : BitVec 16) : valueFits (b.toNat : Int) = true := by
  have := b.isLt
  rw [valueFits_iff]
  omega

/-- A byte operand is read back from the low half of its field (R41, format D). -/
theorem setWidth_extract (x : BitVec 8) : ((x.setWidth 16).extractLsb' 0 8) = x := by
  apply BitVec.eq_of_toNat_eq
  have := x.isLt
  simp [BitVec.extractLsb'_toNat]
  omega

end Sys2Proof
end

