-- ==== Sys2Proof/Laws/State.lean ====
section
/-! SUPPORT. One lemma per field per update of State, so that no proof unfolds a record update. -/

namespace Sys2Proof.Machine

@[simp] theorem State.logCall_dbg (q : AdapterRequest) (s : State) : (s.logCall q).dbg = s.dbg := rfl
@[simp] theorem State.logCall_handle (q : AdapterRequest) (s : State) : (s.logCall q).handle = s.handle := rfl
@[simp] theorem State.logCall_inFlight (q : AdapterRequest) (s : State) : (s.logCall q).inFlight = s.inFlight := rfl
@[simp] theorem State.logCall_rst (q : AdapterRequest) (s : State) : (s.logCall q).rst = s.rst := rfl
@[simp] theorem State.logCall_requester (q : AdapterRequest) (s : State) : (s.logCall q).requester = s.requester := rfl
@[simp] theorem State.logCall_answers (q : AdapterRequest) (s : State) : (s.logCall q).answers = s.answers.tail := rfl
@[simp] theorem State.logCall_calls (q : AdapterRequest) (s : State) : (s.logCall q).calls = s.calls + 1 := rfl
@[simp] theorem State.logCall_accesses (q : AdapterRequest) (s : State) : (s.logCall q).accesses = s.accesses := rfl
@[simp] theorem State.logCall_trace (q : AdapterRequest) (s : State) : (s.logCall q).trace = s.trace ++ [s.callTo q] := rfl
@[simp] theorem State.logCall_responses (q : AdapterRequest) (s : State) : (s.logCall q).responses = s.responses := rfl
@[simp] theorem State.logCall_diagnostics (q : AdapterRequest) (s : State) : (s.logCall q).diagnostics = s.diagnostics := rfl

@[simp] theorem State.noteAccess_dbg (operation : RegisterOperation) (addr : Int) (s : State) : (s.noteAccess operation addr).dbg = s.dbg := rfl
@[simp] theorem State.noteAccess_handle (operation : RegisterOperation) (addr : Int) (s : State) : (s.noteAccess operation addr).handle = s.handle := rfl
@[simp] theorem State.noteAccess_inFlight (operation : RegisterOperation) (addr : Int) (s : State) : (s.noteAccess operation addr).inFlight = s.inFlight := rfl
@[simp] theorem State.noteAccess_rst (operation : RegisterOperation) (addr : Int) (s : State) : (s.noteAccess operation addr).rst = s.rst := rfl
@[simp] theorem State.noteAccess_requester (operation : RegisterOperation) (addr : Int) (s : State) : (s.noteAccess operation addr).requester = s.requester := rfl
@[simp] theorem State.noteAccess_answers (operation : RegisterOperation) (addr : Int) (s : State) : (s.noteAccess operation addr).answers = s.answers := rfl
@[simp] theorem State.noteAccess_calls (operation : RegisterOperation) (addr : Int) (s : State) : (s.noteAccess operation addr).calls = s.calls := rfl
@[simp] theorem State.noteAccess_accesses (operation : RegisterOperation) (addr : Int) (s : State) : (s.noteAccess operation addr).accesses = s.accesses + 1 := rfl
@[simp] theorem State.noteAccess_trace (operation : RegisterOperation) (addr : Int) (s : State) : (s.noteAccess operation addr).trace = s.trace := rfl
@[simp] theorem State.noteAccess_responses (operation : RegisterOperation) (addr : Int) (s : State) : (s.noteAccess operation addr).responses = s.responses := rfl
@[simp] theorem State.noteAccess_diagnostics (operation : RegisterOperation) (addr : Int) (s : State) : (s.noteAccess operation addr).diagnostics = s.diagnostics ++ s.emission operation addr := rfl

@[simp] theorem State.respond_dbg (r : Response) (s : State) : (s.respond r).dbg = s.dbg := rfl
@[simp] theorem State.respond_handle (r : Response) (s : State) : (s.respond r).handle = s.handle := rfl
@[simp] theorem State.respond_inFlight (r : Response) (s : State) : (s.respond r).inFlight = s.inFlight := rfl
@[simp] theorem State.respond_rst (r : Response) (s : State) : (s.respond r).rst = s.rst := rfl
@[simp] theorem State.respond_requester (r : Response) (s : State) : (s.respond r).requester = s.requester := rfl
@[simp] theorem State.respond_answers (r : Response) (s : State) : (s.respond r).answers = s.answers := rfl
@[simp] theorem State.respond_calls (r : Response) (s : State) : (s.respond r).calls = s.calls := rfl
@[simp] theorem State.respond_accesses (r : Response) (s : State) : (s.respond r).accesses = s.accesses := rfl
@[simp] theorem State.respond_trace (r : Response) (s : State) : (s.respond r).trace = s.trace := rfl
@[simp] theorem State.respond_responses (r : Response) (s : State) : (s.respond r).responses = s.responses ++ [r] := rfl
@[simp] theorem State.respond_diagnostics (r : Response) (s : State) : (s.respond r).diagnostics = s.diagnostics := rfl

@[simp] theorem State.wait_dbg (q : AdapterRequest) (s : State) : (s.wait q).dbg = s.dbg := rfl
@[simp] theorem State.wait_handle (q : AdapterRequest) (s : State) : (s.wait q).handle = s.handle := rfl
@[simp] theorem State.wait_inFlight (q : AdapterRequest) (s : State) : (s.wait q).inFlight = some q := rfl
@[simp] theorem State.wait_rst (q : AdapterRequest) (s : State) : (s.wait q).rst = s.rst := rfl
@[simp] theorem State.wait_requester (q : AdapterRequest) (s : State) : (s.wait q).requester = s.requester := rfl
@[simp] theorem State.wait_answers (q : AdapterRequest) (s : State) : (s.wait q).answers = s.answers := rfl
@[simp] theorem State.wait_calls (q : AdapterRequest) (s : State) : (s.wait q).calls = s.calls := rfl
@[simp] theorem State.wait_accesses (q : AdapterRequest) (s : State) : (s.wait q).accesses = s.accesses := rfl
@[simp] theorem State.wait_trace (q : AdapterRequest) (s : State) : (s.wait q).trace = s.trace := rfl
@[simp] theorem State.wait_responses (q : AdapterRequest) (s : State) : (s.wait q).responses = s.responses := rfl
@[simp] theorem State.wait_diagnostics (q : AdapterRequest) (s : State) : (s.wait q).diagnostics = s.diagnostics := rfl

@[simp] theorem State.setDbg_dbg (d : DebugLevel) (s : State) : (s.setDbg d).dbg = d := rfl
@[simp] theorem State.setDbg_handle (d : DebugLevel) (s : State) : (s.setDbg d).handle = s.handle := rfl
@[simp] theorem State.setDbg_inFlight (d : DebugLevel) (s : State) : (s.setDbg d).inFlight = s.inFlight := rfl
@[simp] theorem State.setDbg_rst (d : DebugLevel) (s : State) : (s.setDbg d).rst = s.rst := rfl
@[simp] theorem State.setDbg_requester (d : DebugLevel) (s : State) : (s.setDbg d).requester = s.requester := rfl
@[simp] theorem State.setDbg_answers (d : DebugLevel) (s : State) : (s.setDbg d).answers = s.answers := rfl
@[simp] theorem State.setDbg_calls (d : DebugLevel) (s : State) : (s.setDbg d).calls = s.calls := rfl
@[simp] theorem State.setDbg_accesses (d : DebugLevel) (s : State) : (s.setDbg d).accesses = s.accesses := rfl
@[simp] theorem State.setDbg_trace (d : DebugLevel) (s : State) : (s.setDbg d).trace = s.trace := rfl
@[simp] theorem State.setDbg_responses (d : DebugLevel) (s : State) : (s.setDbg d).responses = s.responses := rfl
@[simp] theorem State.setDbg_diagnostics (d : DebugLevel) (s : State) : (s.setDbg d).diagnostics = s.diagnostics := rfl

@[simp] theorem State.accept_dbg (s : State) : (s.accept).dbg = s.dbg := rfl
@[simp] theorem State.accept_handle (s : State) : (s.accept).handle = s.handle := rfl
@[simp] theorem State.accept_inFlight (s : State) : (s.accept).inFlight = s.inFlight := rfl
@[simp] theorem State.accept_rst (s : State) : (s.accept).rst = s.rst := rfl
@[simp] theorem State.accept_requester (s : State) : (s.accept).requester = s.requester.tail := rfl
@[simp] theorem State.accept_answers (s : State) : (s.accept).answers = s.answers := rfl
@[simp] theorem State.accept_calls (s : State) : (s.accept).calls = s.calls := rfl
@[simp] theorem State.accept_accesses (s : State) : (s.accept).accesses = s.accesses := rfl
@[simp] theorem State.accept_trace (s : State) : (s.accept).trace = s.trace := rfl
@[simp] theorem State.accept_responses (s : State) : (s.accept).responses = s.responses := rfl
@[simp] theorem State.accept_diagnostics (s : State) : (s.accept).diagnostics = s.diagnostics := rfl

@[simp] theorem State.applyReset_dbg (s : State) : (s.applyReset).dbg = .none := rfl
@[simp] theorem State.applyReset_handle (s : State) : (s.applyReset).handle = s.handle := rfl
@[simp] theorem State.applyReset_inFlight (s : State) : (s.applyReset).inFlight = none := rfl
@[simp] theorem State.applyReset_rst (s : State) : (s.applyReset).rst = false := rfl
@[simp] theorem State.applyReset_requester (s : State) : (s.applyReset).requester = s.requester := rfl
@[simp] theorem State.applyReset_answers (s : State) : (s.applyReset).answers = s.answers := rfl
@[simp] theorem State.applyReset_calls (s : State) : (s.applyReset).calls = s.calls := rfl
@[simp] theorem State.applyReset_accesses (s : State) : (s.applyReset).accesses = s.accesses := rfl
@[simp] theorem State.applyReset_trace (s : State) : (s.applyReset).trace = s.trace := rfl
@[simp] theorem State.applyReset_responses (s : State) : (s.applyReset).responses = s.responses := rfl
@[simp] theorem State.applyReset_diagnostics (s : State) : (s.applyReset).diagnostics = s.diagnostics := rfl

/-! What the derived updates are, in terms of `respond`. -/

theorem State.succeed_eq (data : Byte) (temp : BitVec 32) (s : State) :
    s.succeed data temp = s.respond (plainResponse .ok 0 data temp) := rfl

theorem State.raise_eq (kind : Kind) (code : Status) (data : Byte) (s : State) :
    s.raise kind code data = s.respond (plainResponse kind code data 0) := rfl

theorem State.illegalCommand_eq (s : State) :
    s.illegalCommand = s.respond (plainResponse .illegalCommand 0 0 0) := rfl

/-! Where a call goes and what answers it depend on the handle, the listed answers and the counter only. -/

@[simp] theorem State.callTo_bus (s : State) (q : AdapterRequest) : (s.callTo q).bus = s.handle.bus := rfl
@[simp] theorem State.callTo_devAddr (s : State) (q : AdapterRequest) : (s.callTo q).devAddr = s.handle.devAddr := rfl
@[simp] theorem State.callTo_request (s : State) (q : AdapterRequest) : (s.callTo q).request = q := rfl

@[simp] theorem State.noteAccess_callTo (operation : RegisterOperation) (addr : Int) (s : State) (q : AdapterRequest) :
    (s.noteAccess operation addr).callTo q = s.callTo q := rfl
@[simp] theorem State.logCall_callTo (p : AdapterRequest) (s : State) (q : AdapterRequest) :
    (s.logCall p).callTo q = s.callTo q := rfl
@[simp] theorem State.respond_callTo (r : Response) (s : State) (q : AdapterRequest) :
    (s.respond r).callTo q = s.callTo q := rfl
@[simp] theorem State.wait_callTo (p : AdapterRequest) (s : State) (q : AdapterRequest) :
    (s.wait p).callTo q = s.callTo q := rfl
@[simp] theorem State.noteAccess_answerTo (operation : RegisterOperation) (addr : Int) (s : State)
    (q : AdapterRequest) : (s.noteAccess operation addr).answerTo q = s.answerTo q := rfl

theorem State.answerTo_listed {s : State} {a : AdapterAnswer} {rest : List AdapterAnswer}
    (h : s.answers = a :: rest) (q : AdapterRequest) : s.answerTo q = a := by
  simp [State.answerTo, h]

@[simp] theorem State.emission_none {s : State} (h : s.dbg = .none) (operation : RegisterOperation) (addr : Int) :
    s.emission operation addr = [] := by
  simp [State.emission, h]

/-- The word that `withFetchWord` presents is the next one, and the block is ready for it. -/
@[simp] theorem State.withFetchWord_ready (s : State) (nbits w : Nat) :
    (s.withFetchWord nbits w).rst = false ∧ (s.withFetchWord nbits w).inFlight = none ∧
      (s.withFetchWord nbits w).requester = wordOfTable nbits w :: s.requester.tail := ⟨rfl, rfl, rfl⟩

end Sys2Proof.Machine
end

