-- ==== Sys2Proof/Laws/Ops.lean ====
section
/-! SUPPORT. What each shared operation can do, said once: the provers cite these instead of unfolding. -/

namespace Sys2Proof.Machine

/-! ### Operands and outcomes -/

theorem validAddress_iff (addr : Int) : validAddress addr = true ↔ 0 ≤ addr ∧ addr ≤ 255 := by
  simp [validAddress]

theorem validAddress_false_iff (addr : Int) : validAddress addr = false ↔ ¬ (0 ≤ addr ∧ addr ≤ 255) := by
  rw [← validAddress_iff, Bool.not_eq_true]

theorem failedBit_iff (kind kind2 : Kind) : failedBit kind kind2 = true ↔ kind ≠ .ok ∨ kind2 ≠ .ok := by
  simp [failedBit, -not_and]

/-- A single read's response, failure or not, has the outcome's three fields (R64, R67). -/
theorem State.finishRead_eq (r : ReadResult) (s : State) :
    s.finishRead r = s.respond (plainResponse r.kind r.code r.data 0) := by
  cases r <;> rfl

/-- A single write's response has the outcome's kind and code, and `data` 0 (R68). -/
theorem State.finishWrite_eq (r : WriteResult) (s : State) :
    s.finishWrite r = s.respond (plainResponse r.kind r.code 0 0) := by
  cases r <;> rfl

/-- The three ways steps 3 to 5 of READ_REGISTER end (R64). -/
theorem readCheck_cases (r : AdapterReply) :
    (r.status ≠ 0 ∧ readCheck r = .busError r.status) ∨
    (r.status = 0 ∧ r.rbytes.length ≠ 1 ∧ readCheck r = .shortRead) ∨
    (r.status = 0 ∧ ∃ b, r.rbytes = [b] ∧ readCheck r = .ok b) := by
  by_cases h : r.status = 0
  · rcases hb : r.rbytes with _ | ⟨b, _ | ⟨c, l⟩⟩
    · exact .inr (.inl ⟨h, by simp, by simp [readCheck, h, hb]⟩)
    · have hm : b &&& 0xFF = b := BitVec.and_allOnes
      exact .inr (.inr ⟨h, b, rfl, by simp only [readCheck, h, hb, hm]; simp⟩)
    · exact .inr (.inl ⟨h, by simp, by simp [readCheck, h, hb]⟩)
  · exact .inl ⟨h, if_pos h⟩

theorem writeCheck_cases (r : AdapterReply) :
    (r.status ≠ 0 ∧ writeCheck r = .busError r.status) ∨ (r.status = 0 ∧ writeCheck r = .ok) := by
  by_cases h : r.status = 0
  · exact .inr ⟨h, if_neg (not_not.mpr h)⟩
  · exact .inl ⟨h, if_pos h⟩

/-- A checked read is never InvalidAddress, and its code is nonzero exactly for BusError. -/
theorem readCheck_kind (r : AdapterReply) :
    ((readCheck r).kind = .ok ∨ (readCheck r).kind = .busError ∨ (readCheck r).kind = .shortRead) ∧
      ((readCheck r).code ≠ 0 ↔ (readCheck r).kind = .busError) := by
  rcases readCheck_cases r with ⟨h, e⟩ | ⟨-, -, e⟩ | ⟨-, b, -, e⟩ <;> simp [e, ReadResult.kind, ReadResult.code]
  exact h

theorem writeCheck_kind (r : AdapterReply) :
    (writeCheck r).kind ≠ .invalidAddress ∧ ((writeCheck r).code ≠ 0 ↔ (writeCheck r).kind = .busError) := by
  rcases writeCheck_cases r with ⟨h, e⟩ | ⟨-, e⟩ <;> simp [e, WriteResult.kind, WriteResult.code]
  exact h

/-! ### One register access -/

theorem readAccess_refused {addr : Int} (h : validAddress addr = false) (s : State) :
    readAccess addr s = (.done .invalidAddress, s.noteAccess .read addr) := by
  simp [readAccess, h]

theorem readAccess_reply {addr : Int} (h : validAddress addr = true) {s : State} {r : AdapterReply}
    (ha : s.answerTo (readFrame addr) = .reply r) :
    readAccess addr s = (.done (readCheck r), (s.noteAccess .read addr).logCall (readFrame addr)) := by
  simp [readAccess, h, ha]

theorem readAccess_never {addr : Int} (h : validAddress addr = true) {s : State}
    (ha : s.answerTo (readFrame addr) = .never) :
    readAccess addr s = (.waiting (readFrame addr), (s.noteAccess .read addr).logCall (readFrame addr)) := by
  simp [readAccess, h, ha]

/-- All that a register read can do. -/
theorem readAccess_cases (addr : Int) (s : State) :
    (validAddress addr = false ∧ readAccess addr s = (.done .invalidAddress, s.noteAccess .read addr)) ∨
    (validAddress addr = true ∧ ∃ r, s.answerTo (readFrame addr) = .reply r ∧
      readAccess addr s = (.done (readCheck r), (s.noteAccess .read addr).logCall (readFrame addr))) ∨
    (validAddress addr = true ∧ s.answerTo (readFrame addr) = .never ∧
      readAccess addr s = (.waiting (readFrame addr), (s.noteAccess .read addr).logCall (readFrame addr))) := by
  cases h : validAddress addr
  · exact .inl ⟨rfl, readAccess_refused h s⟩
  · cases ha : s.answerTo (readFrame addr) with
    | reply r => exact .inr (.inl ⟨rfl, r, rfl, readAccess_reply h ha⟩)
    | never => exact .inr (.inr ⟨rfl, rfl, readAccess_never h ha⟩)

theorem writeAccess_refused {addr : Int} (h : validAddress addr = false) (value : Int) (s : State) :
    writeAccess addr value s = (.done .invalidAddress, s.noteAccess .write addr) := by
  simp [writeAccess, h]

theorem writeAccess_reply {addr value : Int} (h : validAddress addr = true) {s : State} {r : AdapterReply}
    (ha : s.answerTo (writeFrame addr value) = .reply r) :
    writeAccess addr value s =
      (.done (writeCheck r), (s.noteAccess .write addr).logCall (writeFrame addr value)) := by
  simp [writeAccess, h, ha]

theorem writeAccess_never {addr value : Int} (h : validAddress addr = true) {s : State}
    (ha : s.answerTo (writeFrame addr value) = .never) :
    writeAccess addr value s =
      (.waiting (writeFrame addr value), (s.noteAccess .write addr).logCall (writeFrame addr value)) := by
  simp [writeAccess, h, ha]

/-! ### Commands that are one access -/

/-- All that a command of one register read can do. -/
theorem runRead_cases (addr : Int) (s : State) :
    (validAddress addr = false ∧
      runRead addr s =
        (s.noteAccess .read addr).respond (plainResponse .invalidAddress 0 Config.errByte 0)) ∨
    (validAddress addr = true ∧ ∃ r, s.answerTo (readFrame addr) = .reply r ∧
      runRead addr s =
        ((s.noteAccess .read addr).logCall (readFrame addr)).respond
          (plainResponse (readCheck r).kind (readCheck r).code (readCheck r).data 0)) ∨
    (validAddress addr = true ∧ s.answerTo (readFrame addr) = .never ∧
      runRead addr s = ((s.noteAccess .read addr).logCall (readFrame addr)).wait (readFrame addr)) := by
  rcases readAccess_cases addr s with ⟨h, e⟩ | ⟨h, r, ha, e⟩ | ⟨h, ha, e⟩
  · exact .inl ⟨h, by simp only [runRead, e, State.finishRead_eq]; rfl⟩
  · exact .inr (.inl ⟨h, r, ha, by simp only [runRead, e, State.finishRead_eq]⟩)
  · exact .inr (.inr ⟨h, ha, by simp only [runRead, e]⟩)

/-- All that a command of one register write can do. -/
theorem runWrite_cases (addr value : Int) (s : State) :
    (validAddress addr = false ∧
      runWrite addr value s = (s.noteAccess .write addr).respond (plainResponse .invalidAddress 0 0 0)) ∨
    (validAddress addr = true ∧ ∃ r, s.answerTo (writeFrame addr value) = .reply r ∧
      runWrite addr value s =
        ((s.noteAccess .write addr).logCall (writeFrame addr value)).respond
          (plainResponse (writeCheck r).kind (writeCheck r).code 0 0)) ∨
    (validAddress addr = true ∧ s.answerTo (writeFrame addr value) = .never ∧
      runWrite addr value s =
        ((s.noteAccess .write addr).logCall (writeFrame addr value)).wait (writeFrame addr value)) := by
  cases h : validAddress addr
  · exact .inl ⟨rfl, by simp only [runWrite, writeAccess_refused h, State.finishWrite_eq]; rfl⟩
  · cases ha : s.answerTo (writeFrame addr value) with
    | reply r => exact .inr (.inl ⟨rfl, r, rfl, by simp only [runWrite, writeAccess_reply h ha, State.finishWrite_eq]⟩)
    | never => exact .inr (.inr ⟨rfl, rfl, by simp only [runWrite, writeAccess_never h ha]⟩)

/-- The state after the call of one register read. -/
abbrev State.afterRead (s : State) (addr : Int) : State := (s.noteAccess .read addr).logCall (readFrame addr)

/-- All that a temperature read at two addresses in range can do (R100): wait at the first call, wait at the second,
or answer with both outcomes. -/
theorem runReadTemp_cases {addrInt addrFract : Int} (hi : validAddress addrInt = true)
    (hf : validAddress addrFract = true) (s : State) :
    (s.answerTo (readFrame addrInt) = .never ∧
      runReadTemp addrInt addrFract s = (s.afterRead addrInt).wait (readFrame addrInt)) ∨
    (∃ r1, s.answerTo (readFrame addrInt) = .reply r1 ∧
      (s.afterRead addrInt).answerTo (readFrame addrFract) = .never ∧
      runReadTemp addrInt addrFract s =
        ((s.afterRead addrInt).afterRead addrFract).wait (readFrame addrFract)) ∨
    (∃ r1 r2, s.answerTo (readFrame addrInt) = .reply r1 ∧
      (s.afterRead addrInt).answerTo (readFrame addrFract) = .reply r2 ∧
      runReadTemp addrInt addrFract s =
        ((s.afterRead addrInt).afterRead addrFract).respond
          (temperatureResponse (readCheck r1) (readCheck r2)
            (decodePort (readCheck r1).data (readCheck r2).data))) := by
  cases ha : s.answerTo (readFrame addrInt) with
  | never => exact .inl ⟨rfl, by simp only [runReadTemp, readAccess_never hi ha]⟩
  | reply r1 =>
    cases hb : (s.afterRead addrInt).answerTo (readFrame addrFract) with
    | never =>
      exact .inr (.inl ⟨r1, rfl, rfl, by simp only [runReadTemp, readAccess_reply hi ha, readAccess_never hf hb]⟩)
    | reply r2 =>
      exact .inr (.inr ⟨r1, r2, rfl, rfl, by
        simp only [runReadTemp, readAccess_reply hi ha, readAccess_reply hf hb]⟩)

/-! ### All commands, and the step -/

/-- Every command is one of five shapes: a bare response, SET_DEBUG's write with its response, one register read, one
register write, a temperature read at two addresses in range. -/
theorem exec_shape (i : Instr) (s : State) :
    (∃ kind code data temp, exec i s = .next (s.respond (plainResponse kind code data temp)) ∧
      (kind = .ok ∧ code = 0 ∨ (kind = .invalidAddress ∨ kind = .illegalCommand) ∧ code = 0 ∧ temp = 0)) ∨
    (∃ level d, i = .setDebug level ∧ debugLevelOf level = some d ∧
      exec i s = .next ((s.setDbg d).respond (plainResponse .ok 0 0 0))) ∨
    (∃ addr, exec i s = .next (runRead addr s)) ∨
    (∃ addr value, exec i s = .next (runWrite addr value s)) ∨
    (∃ addrInt addrFract, validAddress addrInt = true ∧ validAddress addrFract = true ∧
      exec i s = .next (runReadTemp addrInt addrFract s)) := by
  cases i with
  | validateAddress addr =>
    left
    cases h : validAddress addr
    · exact ⟨.invalidAddress, 0, 0, 0, by simp [exec, execValidateAddress, h, State.raise_eq], by simp⟩
    · exact ⟨.ok, 0, 0, 0, by simp [exec, execValidateAddress, h, State.succeed_eq], by simp⟩
  | addressName addr => exact .inl ⟨.ok, 0, addressNameId addr, 0, rfl, by simp⟩
  | decode a b => exact .inl ⟨.ok, 0, 0, decodePort a b, rfl, by simp⟩
  | setDebug level =>
    cases h : debugLevelOf level with
    | none => exact .inl ⟨.illegalCommand, 0, 0, 0, by simp [exec, execSetDebug, h, State.illegalCommand_eq], by simp⟩
    | some d => exact .inr (.inl ⟨level, d, rfl, h, by simp [exec, execSetDebug, h, State.succeed_eq]⟩)
  | readRegister addr => exact .inr (.inr (.inl ⟨addr, rfl⟩))
  | readStatus => exact .inr (.inr (.inl ⟨regStatus, rfl⟩))
  | readConfig0 => exact .inr (.inr (.inl ⟨regConfig0, rfl⟩))
  | readConfig1 => exact .inr (.inr (.inl ⟨regConfig1, rfl⟩))
  | readConvRate0 => exact .inr (.inr (.inl ⟨regConvRate0, rfl⟩))
  | readConvRate1 => exact .inr (.inr (.inl ⟨regConvRate1, rfl⟩))
  | readProductId => exact .inr (.inr (.inl ⟨regProductId, rfl⟩))
  | readManufacturerId => exact .inr (.inr (.inl ⟨regManufacturerId, rfl⟩))
  | readRevision => exact .inr (.inr (.inl ⟨regRevision, rfl⟩))
  | writeRegister addr value => exact .inr (.inr (.inr (.inl ⟨addr, value, rfl⟩)))
  | writeConfig0 value => exact .inr (.inr (.inr (.inl ⟨regConfig0, value, rfl⟩)))
  | writeConfig1 value => exact .inr (.inr (.inr (.inl ⟨regConfig1, value, rfl⟩)))
  | writeConvRate0 value => exact .inr (.inr (.inr (.inl ⟨regConvRate0, value, rfl⟩)))
  | writeConvRate1 value => exact .inr (.inr (.inr (.inl ⟨regConvRate1, value, rfl⟩)))
  | readTempInt => exact .inr (.inr (.inr (.inr ⟨regInternalInt, regInternalFract, by decide, by decide, rfl⟩)))
  | readTempExt1 => exact .inr (.inr (.inr (.inr ⟨regExternal1Int, regExternal1Fract, by decide, by decide, rfl⟩)))
  | readTempExt2 => exact .inr (.inr (.inr (.inr ⟨regExternal2Int, regExternal2Fract, by decide, by decide, rfl⟩)))

/-- All that a step can do: reset, nothing (busy, or no command), a command, the answer to an illegal word. -/
theorem step_cases (s : State) :
    (s.rst = true ∧ step s = .next s.applyReset) ∨
    (s.rst = false ∧ (s.inFlight ≠ none ∨ s.requester = []) ∧ step s = .next s) ∨
    (s.rst = false ∧ s.inFlight = none ∧ ∃ w rest, s.requester = w :: rest ∧
      ((∃ i, decode w = .ok i ∧ step s = exec i s.accept) ∨
       (∃ e, decode w = .error e ∧ step s = .next s.accept.illegalCommand))) := by
  cases hr : s.rst
  · cases hf : s.inFlight with
    | some q => simp [step, hr, hf]
    | none =>
      cases hq : s.requester with
      | nil => simp [step, hr, hf, hq]
      | cons w rest => cases hd : decode w <;> simp [step, hr, hf, hq, hd]
  · simp [step, hr]

end Sys2Proof.Machine
end

