-- ==== Sys2Proof/Laws/PerInstr.lean ====
section
/-! SUPPORT. Statements about every command as syntax, one lemma per constructor. Family EncodeFields: the fields of a
command's word are its opcode and its operand fields (R40 to R42). -/

namespace Sys2Proof.Laws.EncodeFields

/-- The three fields of the encoded command. -/
def Statement (i : Instr) : Prop :=
  opField (encode i) = i.opcode ∧ aField (encode i) = i.aOperand ∧ bField (encode i) = i.bOperand

theorem validateAddress (addr : Int) : Statement (.validateAddress addr) :=
  ⟨opField_packWord _ _ _, aField_packWord _ _ _, bField_packWord _ _ _⟩

theorem addressName (addr : Int) : Statement (.addressName addr) :=
  ⟨opField_packWord _ _ _, aField_packWord _ _ _, bField_packWord _ _ _⟩

theorem readRegister (addr : Int) : Statement (.readRegister addr) :=
  ⟨opField_packWord _ _ _, aField_packWord _ _ _, bField_packWord _ _ _⟩

theorem writeRegister (addr : Int) (value : Int) : Statement (.writeRegister addr value) :=
  ⟨opField_packWord _ _ _, aField_packWord _ _ _, bField_packWord _ _ _⟩

theorem decode (intByte : Byte) (fractByte : Byte) : Statement (.decode intByte fractByte) :=
  ⟨opField_packWord _ _ _, aField_packWord _ _ _, bField_packWord _ _ _⟩

theorem readTempInt : Statement .readTempInt :=
  ⟨opField_packWord _ _ _, aField_packWord _ _ _, bField_packWord _ _ _⟩

theorem readTempExt1 : Statement .readTempExt1 :=
  ⟨opField_packWord _ _ _, aField_packWord _ _ _, bField_packWord _ _ _⟩

theorem readTempExt2 : Statement .readTempExt2 :=
  ⟨opField_packWord _ _ _, aField_packWord _ _ _, bField_packWord _ _ _⟩

theorem readStatus : Statement .readStatus :=
  ⟨opField_packWord _ _ _, aField_packWord _ _ _, bField_packWord _ _ _⟩

theorem readConfig0 : Statement .readConfig0 :=
  ⟨opField_packWord _ _ _, aField_packWord _ _ _, bField_packWord _ _ _⟩

theorem readConfig1 : Statement .readConfig1 :=
  ⟨opField_packWord _ _ _, aField_packWord _ _ _, bField_packWord _ _ _⟩

theorem readConvRate0 : Statement .readConvRate0 :=
  ⟨opField_packWord _ _ _, aField_packWord _ _ _, bField_packWord _ _ _⟩

theorem readConvRate1 : Statement .readConvRate1 :=
  ⟨opField_packWord _ _ _, aField_packWord _ _ _, bField_packWord _ _ _⟩

theorem readProductId : Statement .readProductId :=
  ⟨opField_packWord _ _ _, aField_packWord _ _ _, bField_packWord _ _ _⟩

theorem readManufacturerId : Statement .readManufacturerId :=
  ⟨opField_packWord _ _ _, aField_packWord _ _ _, bField_packWord _ _ _⟩

theorem readRevision : Statement .readRevision :=
  ⟨opField_packWord _ _ _, aField_packWord _ _ _, bField_packWord _ _ _⟩

theorem writeConfig0 (value : Int) : Statement (.writeConfig0 value) :=
  ⟨opField_packWord _ _ _, aField_packWord _ _ _, bField_packWord _ _ _⟩

theorem writeConfig1 (value : Int) : Statement (.writeConfig1 value) :=
  ⟨opField_packWord _ _ _, aField_packWord _ _ _, bField_packWord _ _ _⟩

theorem writeConvRate0 (value : Int) : Statement (.writeConvRate0 value) :=
  ⟨opField_packWord _ _ _, aField_packWord _ _ _, bField_packWord _ _ _⟩

theorem writeConvRate1 (value : Int) : Statement (.writeConvRate1 value) :=
  ⟨opField_packWord _ _ _, aField_packWord _ _ _, bField_packWord _ _ _⟩

theorem setDebug (level : BitVec 2) : Statement (.setDebug level) :=
  ⟨opField_packWord _ _ _, aField_packWord _ _ _, bField_packWord _ _ _⟩

end Sys2Proof.Laws.EncodeFields
end

