-- ==== Sys2Proof/Laws/RegisterMap.lean ====
section
/-! SUPPORT. The register table as a lookup (R22, R62): every row is found at its address, no other address has one. -/

namespace Sys2Proof.Machine

/-- The addresses of the table are distinct: each row is the one found at its address. -/
theorem registerRow_of_mem : ∀ row ∈ registerNames, registerRow row.addr = some row := by decide

/-- What is found is a row of the table, at its address. -/
theorem registerRow_some {addr : Int} {row : RegisterName} (h : registerRow addr = some row) :
    row ∈ registerNames ∧ row.addr = addr :=
  ⟨List.mem_of_find?_eq_some h, by simpa using List.find?_some h⟩

/-- An address that is none of the 14 has no row. -/
theorem registerRow_none {addr : Int} (h : addr ∉ registerNames.map (·.addr)) : registerRow addr = none := by
  rw [registerRow, List.find?_eq_none]
  intro row hr hb
  exact h (List.mem_map.2 ⟨row, hr, by simpa using hb⟩)

/-- Ids and texts of the table stand for each other, and none is the default. -/
theorem registerNames_ids : ∀ a ∈ registerNames, a.id ≠ 14 ∧ a.text ≠ otherName ∧ a.text ≠ "" ∧
    ∀ b ∈ registerNames, (a.id = b.id ↔ a.text = b.text) := by decide

end Sys2Proof.Machine
end

