-- ==== Sys2Proof/Machine/Render.lean ====
section
/-! DEFINITION. The written form of commands and responses (R42, R53): "the source's function notation and nothing
more". No meaning uses it. -/

namespace Sys2Proof.Machine

/-- A call with its operands in parentheses, "separated by commas" (R53). -/
def callText (name : String) (operands : List String) : String :=
  name ++ "(" ++ ", ".intercalate operands ++ ")"

/-- A byte as `0x` and two hexadecimal digits (R53). -/
def byteText (b : Byte) : String :=
  "0x" ++ String.ofList [(Nat.digitChar (b.toNat / 16)).toUpper, (Nat.digitChar (b.toNat % 16)).toUpper]

/-- The call syntax column of R42, integers in decimal, bytes in hexadecimal (R53 allows both). -/
def commandText : Instr → String
  | .validateAddress addr => callText "validate_address" [toString addr]
  | .addressName addr => callText "address_name" [toString addr]
  | .readRegister addr => callText "read_register" [toString addr]
  | .writeRegister addr value => callText "write_register" [toString addr, toString value]
  | .decode intByte fractByte => callText "decode" [byteText intByte, byteText fractByte]
  | .readTempInt => callText "read_temp_int" []
  | .readTempExt1 => callText "read_temp_ext1" []
  | .readTempExt2 => callText "read_temp_ext2" []
  | .readStatus => callText "read_status" []
  | .readConfig0 => callText "read_config0" []
  | .readConfig1 => callText "read_config1" []
  | .readConvRate0 => callText "read_conv_rate0" []
  | .readConvRate1 => callText "read_conv_rate1" []
  | .readProductId => callText "read_product_id" []
  | .readManufacturerId => callText "read_manufacturer_id" []
  | .readRevision => callText "read_revision" []
  | .writeConfig0 value => callText "write_config0" [toString value]
  | .writeConfig1 value => callText "write_config1" [toString value]
  | .writeConvRate0 value => callText "write_conv_rate0" [toString value]
  | .writeConvRate1 value => callText "write_conv_rate1" [toString value]
  | .setDebug level => callText "set_debug" [toString level.toNat]

/-- `m` read back from a binary32 pattern of R49: the magnitude in eighths of a degree. -/
def eighthsOfBinary32 (w : BitVec 32) : Nat :=
  let exponent := (w.extractLsb' 23 8).toNat
  let fraction := (w.extractLsb' 0 23).toNat
  if exponent = 0 then 0 else (2 ^ 23 + fraction) * 2 ^ exponent / 2 ^ 147

/-- The decimal digits of a number of eighths. -/
def eighthsText (n : Nat) : String :=
  match n with
  | 0 => "0"
  | 1 => "125"
  | 2 => "25"
  | 3 => "375"
  | 4 => "5"
  | 5 => "625"
  | 6 => "75"
  | _ => "875"

/-- A temperature as R53 writes it: `25.0`, `-0.0`. -/
def temperatureText (w : BitVec 32) : String :=
  (if w.getLsbD 31 then "-" else "") ++ toString (eighthsOfBinary32 w / 8) ++ "."
    ++ eighthsText (eighthsOfBinary32 w % 8)

/-- What a command's success carries (R53). -/
inductive ResponseShape where
  /-- `-> Ok` -/
  | nothing
  /-- `-> Ok(1)`, ADDRESS_NAME's id -/
  | nameId
  /-- `-> Ok(0x19)` -/
  | byte
  /-- `-> Ok(25.0)` -/
  | temperature
  /-- `-> (failed=0, 25.0)` -/
  | temperatureRead
  deriving DecidableEq, Repr

/-- The shape of each command's response (R53). -/
def responseShape : Instr → ResponseShape
  | .validateAddress _ => .nothing
  | .addressName _ => .nameId
  | .readRegister _ => .byte
  | .writeRegister _ _ => .nothing
  | .decode _ _ => .temperature
  | .readTempInt => .temperatureRead
  | .readTempExt1 => .temperatureRead
  | .readTempExt2 => .temperatureRead
  | .readStatus => .byte
  | .readConfig0 => .byte
  | .readConfig1 => .byte
  | .readConvRate0 => .byte
  | .readConvRate1 => .byte
  | .readProductId => .byte
  | .readManufacturerId => .byte
  | .readRevision => .byte
  | .writeConfig0 _ => .nothing
  | .writeConfig1 _ => .nothing
  | .writeConvRate0 _ => .nothing
  | .writeConvRate1 _ => .nothing
  | .setDebug _ => .nothing

/-- A success as R53 writes it. -/
def okText (shape : ResponseShape) (r : Response) : String :=
  match shape with
  | .nothing => "Ok"
  | .nameId => "Ok(" ++ toString r.data.toNat ++ ")"
  | .byte => "Ok(" ++ byteText r.data ++ ")"
  | .temperature => "Ok(" ++ temperatureText r.temp ++ ")"
  | .temperatureRead => "(failed=0, " ++ temperatureText r.temp ++ ")"

/-- A command's response as R53 writes it. A failed temperature read is written with `failed=1` (log 21). -/
def responseText (i : Instr) (r : Response) : String :=
  if responseShape i = .temperatureRead && r.failed then "-> (failed=1, " ++ temperatureText r.temp ++ ")"
  else
    match r.kind with
    | .ok => "-> " ++ okText (responseShape i) r
    | .invalidAddress => "-> InvalidAddress"
    | .busError => "-> BusError(" ++ toString r.code.toInt ++ ")"
    | .shortRead => "-> ShortRead"
    | .illegalCommand => "-> IllegalCommand"

end Sys2Proof.Machine
end

