-- ==== Sys2Proof/Tests/Slice0.lean ====
section
/-! SUPPORT. Smoke tests: expected results come from spec/95_test_vectors.md and the rules' worked examples; and a
witness for the hypotheses of every statement. -/

namespace Sys2Proof.Tests

open Sys2Proof.Machine Sys2Proof.Claims

/-! ### Helpers -/

/-- The adapter's answer `(status, bytes)`. -/
def answer (status : Status) (bytes : List Byte) : AdapterAnswer := .reply ⟨status, bytes⟩

/-- The state after reset, with one word on the command port and the given answers to come. -/
def ready (w : CommandWord) (answers : List AdapterAnswer) : State :=
  { State.reset with requester := [w], answers := answers }

/-- The next state, where there is one. -/
def stateOf (o : Host.Outcome State Fault Refusal) (s : State) : State :=
  match o with
  | .next t => t
  | .fault _ => s
  | .refused _ => s

/-- One step. -/
def after (s : State) : State := stateOf (step s) s

/-- The requests made, in order. -/
def requests (s : State) : List AdapterRequest := s.trace.map (·.request)

/-- What one word does: its responses and its requests. -/
def observed (w : CommandWord) (answers : List AdapterAnswer) : List Response × List AdapterRequest :=
  ((after (ready w answers)).responses, requests (after (ready w answers)))

/-! ### WellFormed refuses what a word cannot carry (R41) -/

theorem test_address_below_16_bits_is_refused : (Instr.readRegister (-32769)).wellFormed = false := by decide
theorem test_address_above_16_bits_is_refused : (Instr.validateAddress 32768).wellFormed = false := by decide
theorem test_name_address_is_checked : (Instr.addressName 32768).wellFormed = false := by decide
theorem test_write_address_is_checked : (Instr.writeRegister 32768 0).wellFormed = false := by decide
theorem test_write_value_is_checked : (Instr.writeRegister 0 65536).wellFormed = false := by decide
theorem test_negative_value_is_refused : (Instr.writeRegister 3 (-1)).wellFormed = false := by decide
theorem test_facade_values_are_checked :
    (Instr.writeConfig0 65536).wellFormed = false ∧ (Instr.writeConfig1 (-1)).wellFormed = false ∧
    (Instr.writeConvRate0 65536).wellFormed = false ∧ (Instr.writeConvRate1 (-1)).wellFormed = false := by decide
theorem test_reply_of_256_bytes_does_not_fit_the_port (l : List Byte) (h : l.length = 256) :
    (AdapterReply.fitsPort ⟨0, l⟩) = false := by simp [AdapterReply.fitsPort, Config.rmax, h]

/-! ### Decoding: words written out as op (8 bits), a (16 bits), b (16 bits) (R40, R41, R42) -/

theorem test_decode_validate_address :
    decode 0b00000000_1000000000000000_0000000000000000 = .ok (.validateAddress (-32768)) := by decide
theorem test_decode_address_name :
    decode 0b00000001_0000000000101001_0000000000000000 = .ok (.addressName 0x29) := by decide
theorem test_decode_read_register :
    decode 0b00000010_1111111111111111_0000000000000000 = .ok (.readRegister (-1)) := by decide
theorem test_decode_write_register :
    decode 0b00000011_0000000000000011_0000000111111111 = .ok (.writeRegister 3 0x1FF) := by decide
theorem test_decode_decode :
    decode 0b00010000_0000000000011001_0000000001000000 = .ok (.decode 0x19 0x40) := by decide
theorem test_decode_decode_ignores_high_bytes : decode 0x10AB19CD5A = .ok (.decode 0x19 0x5A) := by decide
theorem test_decode_temperature_reads :
    decode 0x2000000000 = .ok .readTempInt ∧ decode 0x2100000000 = .ok .readTempExt1 ∧
    decode 0x2200000000 = .ok .readTempExt2 := by decide
theorem test_decode_passthrough_reads :
    decode 0x3000000000 = .ok .readStatus ∧ decode 0x3100000000 = .ok .readConfig0 ∧
    decode 0x3200000000 = .ok .readConfig1 ∧ decode 0x3300000000 = .ok .readConvRate0 ∧
    decode 0x3400000000 = .ok .readConvRate1 ∧ decode 0x3500000000 = .ok .readProductId ∧
    decode 0x3600000000 = .ok .readManufacturerId ∧ decode 0x37FFFFFFFF = .ok .readRevision := by decide
theorem test_decode_passthrough_writes :
    decode 0x40000001FF = .ok (.writeConfig0 0x1FF) ∧ decode 0x4100000080 = .ok (.writeConfig1 0x80) ∧
    decode 0x4200000006 = .ok (.writeConvRate0 6) ∧ decode 0x43FFFFFFFF = .ok (.writeConvRate1 65535) := by decide
theorem test_decode_set_debug : decode 0x5000000001 = .ok (.setDebug 1) ∧ decode 0x50FFFFFFFE = .ok (.setDebug 2) := by
  decide
theorem test_decode_refuses_neighbours :
    decode 0x0400010002 = .error (.illegalOpcode 0x04) ∧ decode 0x1100000000 = .error (.illegalOpcode 0x11) ∧
    decode 0x2300000000 = .error (.illegalOpcode 0x23) ∧ decode 0x3800000000 = .error (.illegalOpcode 0x38) ∧
    decode 0x4400000000 = .error (.illegalOpcode 0x44) ∧ decode 0x5100000000 = .error (.illegalOpcode 0x51) ∧
    decode 0xFFFFFFFFFF = .error (.illegalOpcode 0xFF) := by decide
theorem test_encode :
    encode (.writeRegister (-1) 0x1FF) = 0x03FFFF01FF ∧ encode (.decode 0xFF 0x80) = 0x1000FF0080 ∧
    encode (.setDebug 3) = 0x5000000003 ∧ encode .readRevision = 0x3700000000 := by decide
theorem test_table_word :
    decodeTableWord 40 0x0200290000 = some (.readRegister 0x29) ∧ decodeTableWord 40 0x0400000000 = none := by decide

/-! ### VALIDATE_ADDRESS and ADDRESS_NAME (95_test_vectors.md 2.1, 2.2) -/

theorem test_validate_255 : observed 0x0000FF0000 [] = ([⟨.ok, 0, 0, .ok, 0, 0, false, 0⟩], []) := by decide
theorem test_validate_256 : observed 0x0001000000 [] = ([⟨.invalidAddress, 0, 0, .ok, 0, 0, true, 0⟩], []) := by decide
theorem test_name_of_0x0A : observed 0x01000A0000 [] = ([⟨.ok, 0, 10, .ok, 0, 0, false, 0⟩], []) := by decide
theorem test_name_of_minus_1 : observed 0x01FFFF0000 [] = ([⟨.ok, 0, 14, .ok, 0, 0, false, 0⟩], []) := by decide
theorem test_name_ids :
    [0x00, 0x29, 0x01, 0x10, 0x23, 0x24, 0x02, 0x03, 0x09, 0x04, 0x0A, 0xFD, 0xFE, 0xFF, 0x05, 0x100].map addressNameId =
    [0, 1, 2, 3, 4, 5, 6, 7, 8, 9, 10, 11, 12, 13, 14, 14] := by decide

/-! ### READ_REGISTER and WRITE_REGISTER (2.3, 2.4) -/

theorem test_read_unnamed :
    observed 0x02007B0000 [answer 0 [0xFF]] =
      ([⟨.ok, 0, 0xFF, .ok, 0, 0, false, 0⟩], [.writeThenRead [0x7B] 1]) := by decide
/-- A nonzero status hides a wrong count (R145). -/
theorem test_read_bus_error_hides_the_count :
    observed 0x0200020000 [answer 7 [0x19, 0x1A]] =
      ([⟨.busError, 7, Config.errByte, .ok, 0, 0, true, 0⟩], [.writeThenRead [0x02] 1]) := rfl
theorem test_read_two_bytes_is_short_read :
    observed 0x0200000000 [answer 0 [0x19, 0x00]] =
      ([⟨.shortRead, 0, Config.errByte, .ok, 0, 0, true, 0⟩], [.writeThenRead [0x00] 1]) := rfl
theorem test_read_out_of_range :
    observed 0x0201000000 [answer 0 [0x19]] =
      ([⟨.invalidAddress, 0, Config.errByte, .ok, 0, 0, true, 0⟩], []) := rfl
theorem test_write_masks :
    observed 0x03000301FF [answer 0 []] = ([⟨.ok, 0, 0, .ok, 0, 0, false, 0⟩], [.write [0x03, 0xFF]]) := by decide
theorem test_write_status_minus_1 :
    observed 0x0300090012 [answer (-1) [1, 2]] =
      ([⟨.busError, 0xFFFFFFFF, 0, .ok, 0, 0, true, 0⟩], [.write [0x09, 0x12]]) := by decide
theorem test_write_of_minus_1_on_abstract_integers : maskValue (-1) = 0xFF := by decide

/-! ### DECODE (2.5): the patterns are the table's -/

theorem test_decode_vectors_positive :
    decodePort 0x19 0x00 = 0x41C80000 ∧ decodePort 0x19 0x40 = 0x41CA0000 ∧ decodePort 0x00 0x20 = 0x3E000000 ∧
    decodePort 0x00 0x80 = 0x00000000 ∧ decodePort 0x00 0xE0 = 0x3EC00000 ∧ decodePort 0x7F 0xE0 = 0x42FEC000 ∧
    decodePort 0x55 0xAA = 0x42AA4000 := by decide
theorem test_decode_vectors_negative :
    decodePort 0xE7 0x00 = 0xC1C80000 ∧ decodePort 0x80 0x00 = 0xC3000000 ∧ decodePort 0x80 0x20 = 0xC2FEC000 ∧
    decodePort 0xFF 0xE0 = 0xBE000000 ∧ decodePort 0xFF 0x9F = 0x80000000 ∧ decodePort 0xE7 0x60 = 0xC1C10000 ∧
    decodePort 0xAA 0x55 = 0xC2AA8000 := by decide
theorem test_decode_binary64 :
    (decodeTemperature 0x7F 0x60).binary64 = 0x405FD80000000000 ∧
    (decodeTemperature 0xFF 0x80).binary64 = 0x8000000000000000 ∧
    (decodeTemperature 0xE7 0x60).binary64 = 0xC038200000000000 := by decide
/-- "exclusive-or of all 2048 binary32 words". -/
theorem test_decode_exclusive_or :
    (List.range 2048).foldl
      (fun acc n => acc ^^^ decodePort (BitVec.ofNat 8 (n / 8)) (BitVec.ofNat 8 (n % 8 * 32))) 0 = 0x43000000 := by
  decide +kernel
theorem test_decode_command :
    observed 0x10AB19CD5A [] = ([⟨.ok, 0, 0, .ok, 0, 0, false, 0x41CA0000⟩], []) := by decide

/-! ### Temperature reads (2.6) -/

theorem test_read_temp_int :
    observed 0x2000000000 [answer 0 [0x19], answer 0 [0x00]] =
      ([⟨.ok, 0, 0x19, .ok, 0, 0x00, false, 0x41C80000⟩], [.writeThenRead [0x00] 1, .writeThenRead [0x29] 1]) := by
  decide
/-- No short circuit: the second read goes out in spite of the first one's failure. -/
theorem test_read_temp_ext1_first_fails :
    ((observed 0x2100000000 [answer 5 [], answer 0 [0x40]]).1.map fun r => (r.kind, r.code, r.kind2, r.data2, r.failed)) =
      [(.busError, 5, .ok, 0x40, true)] ∧
    (observed 0x2100000000 [answer 5 [], answer 0 [0x40]]).2 =
      [.writeThenRead [0x01] 1, .writeThenRead [0x10] 1] := by decide
theorem test_read_temp_ext1_second_fails :
    ((observed 0x2100000000 [answer 0 [0x19], answer 0 [0x40, 0x00]]).1.map fun r => (r.kind, r.data, r.kind2, r.failed)) =
      [(.ok, 0x19, .shortRead, true)] ∧
    (observed 0x2100000000 [answer 0 [0x19], answer 0 [0x40, 0x00]]).2 =
      [.writeThenRead [0x01] 1, .writeThenRead [0x10] 1] := by decide
theorem test_read_temp_ext2 :
    observed 0x2200000000 [answer 0 [0xE7], answer 0 [0x60]] =
      ([⟨.ok, 0, 0xE7, .ok, 0, 0x60, false, 0xC1C10000⟩], [.writeThenRead [0x23] 1, .writeThenRead [0x24] 1]) := by
  decide

/-! ### Passthrough reads and writes (2.7) -/

theorem test_read_status :
    observed 0x3000000000 [answer 0 [0x80]] =
      ([⟨.ok, 0, 0x80, .ok, 0, 0, false, 0⟩], [.writeThenRead [0x02] 1]) := by decide
theorem test_read_config0 :
    observed 0x3100000000 [answer 0 [0x00]] =
      ([⟨.ok, 0, 0x00, .ok, 0, 0, false, 0⟩], [.writeThenRead [0x03] 1]) := by decide
theorem test_read_config1 :
    observed 0x3200000000 [answer 3 []] =
      ([⟨.busError, 3, Config.errByte, .ok, 0, 0, true, 0⟩], [.writeThenRead [0x09] 1]) := rfl
theorem test_read_conv_rate0 :
    observed 0x3300000000 [answer 0 [0x06]] =
      ([⟨.ok, 0, 0x06, .ok, 0, 0, false, 0⟩], [.writeThenRead [0x04] 1]) := by decide
theorem test_read_conv_rate1 :
    observed 0x3400000000 [answer 0 []] =
      ([⟨.shortRead, 0, Config.errByte, .ok, 0, 0, true, 0⟩], [.writeThenRead [0x0A] 1]) := rfl
theorem test_read_product_id :
    observed 0x3500000000 [answer 0 [0x3C]] =
      ([⟨.ok, 0, 0x3C, .ok, 0, 0, false, 0⟩], [.writeThenRead [0xFD] 1]) := by decide
theorem test_read_manufacturer_id :
    observed 0x3600000000 [answer 0 [0xA5]] =
      ([⟨.ok, 0, 0xA5, .ok, 0, 0, false, 0⟩], [.writeThenRead [0xFE] 1]) := by decide
theorem test_read_revision :
    observed 0x3700000000 [answer 0 [0x01]] =
      ([⟨.ok, 0, 0x01, .ok, 0, 0, false, 0⟩], [.writeThenRead [0xFF] 1]) := by decide
theorem test_write_config0 :
    observed 0x40000001FF [answer 0 []] = ([⟨.ok, 0, 0, .ok, 0, 0, false, 0⟩], [.write [0x03, 0xFF]]) := by decide
theorem test_write_config1 :
    observed 0x4100000080 [answer 0 []] = ([⟨.ok, 0, 0, .ok, 0, 0, false, 0⟩], [.write [0x09, 0x80]]) := by decide
theorem test_write_conv_rate0 :
    observed 0x4200000006 [answer 0 []] = ([⟨.ok, 0, 0, .ok, 0, 0, false, 0⟩], [.write [0x04, 0x06]]) := by decide
theorem test_write_conv_rate1 :
    observed 0x4300000006 [answer 2 []] = ([⟨.busError, 2, 0, .ok, 0, 0, true, 0⟩], [.write [0x0A, 0x06]]) := by decide

/-! ### SET_DEBUG and illegal commands (2.8), hang and reset (R160, R168) -/

theorem test_set_debug_2 : (after (ready 0x50FFFFFFFE [])).dbg = .detailed := by decide
theorem test_set_debug_3 :
    observed 0x5000000003 [] = ([⟨.illegalCommand, 0, 0, .ok, 0, 0, true, 0⟩], []) ∧
    (after { ready 0x5000000003 [] with dbg := .info }).dbg = .info := by decide
theorem test_illegal_opcode :
    observed 0x0400010002 [] = ([⟨.illegalCommand, 0, 0, .ok, 0, 0, true, 0⟩], []) := by decide
theorem test_hang_then_reset :
    (after (ready 0x0200290000 [.never])).inFlight = some (.writeThenRead [0x29] 1) ∧
    (after (ready 0x0200290000 [.never])).responses = [] ∧
    (after { after (ready 0x0200290000 [.never]) with rst := true }).inFlight = none := by decide
theorem test_fetch_word :
    (after (State.reset.withFetchWord 40 0x0000FF0000)).responses = [⟨.ok, 0, 0, .ok, 0, 0, false, 0⟩] := by decide

/-! ### Written form (R53) -/

theorem test_command_text :
    commandText (.readRegister (-1)) = "read_register(-1)" ∧ commandText (.decode 0x19 0) = "decode(0x19, 0x00)" ∧
    commandText .readTempInt = "read_temp_int()" := by decide
theorem test_response_text :
    responseText .readTempInt ⟨.ok, 0, 0x19, .ok, 0, 0, false, 0x41C80000⟩ = "-> (failed=0, 25.0)" ∧
    responseText (.readRegister 0) ⟨.ok, 0, 0x19, .ok, 0, 0, false, 0⟩ = "-> Ok(0x19)" ∧
    responseText (.decode 0xFF 0x80) ⟨.ok, 0, 0, .ok, 0, 0, false, 0x80000000⟩ = "-> Ok(-0.0)" ∧
    responseText .readStatus ⟨.busError, -5, 0, .ok, 0, 0, true, 0⟩ = "-> BusError(-5)" := by decide

/-! ### Witnesses: states and operands that meet the hypotheses of each statement -/

theorem witness_decode_of_encode :
    (Instr.readRegister (-32768)).wellFormed = true ∧ (Instr.addressName 32767).wellFormed = true ∧
    (Instr.writeRegister 32767 65535).wellFormed = true ∧ (Instr.writeConfig0 0).wellFormed = true := by decide

theorem witness_decoded_command : decode 0x10AB19CD5A = .ok (.decode 0x19 0x5A) ∧
    encode (.decode 0x19 0x5A) = 0x10AB19CD5A &&& readMask (.decode 0x19 0x5A) := by decide

theorem witness_refused_opcodes : opField 0x0400010002 ∉ opcodes ∧ opField 0xFFFFFFFFFF ∉ opcodes := by decide

theorem witness_step_runs : ∃ (s : State) (w : CommandWord) (rest : List CommandWord) (i : Instr),
    s.rst = false ∧ s.inFlight = none ∧ s.requester = w :: rest ∧ decode w = .ok i :=
  ⟨ready 0x5000000002 [], 0x5000000002, [], .setDebug 2, rfl, rfl, rfl, rfl⟩

theorem witness_illegal_commands : ∃ (s : State) (w : CommandWord) (rest : List CommandWord) (e : DecodeError),
    s.rst = false ∧ s.inFlight = none ∧ s.requester = w :: rest ∧ decode w = .error e :=
  ⟨ready 0x0400010002 [], 0x0400010002, [], .illegalOpcode 0x04, rfl, rfl, rfl, rfl⟩

theorem witness_without_a_command : State.reset.rst = false ∧ State.reset.requester = [] := ⟨rfl, rfl⟩

/-- A block that waits for the answer to a read of 0x29. -/
def waiting : State := after (ready 0x0200290000 [.never])

theorem witness_waiting_block : waiting.inFlight = some (.writeThenRead [0x29] 1) ∧ waiting.rst = false := ⟨rfl, rfl⟩

theorem witness_waiting_block_left : ∃ (s t : State) (q : AdapterRequest),
    s.inFlight = some q ∧ step s = .next t ∧ t.inFlight = none :=
  ⟨{ waiting with rst := true }, _, .writeThenRead [0x29] 1, rfl, rfl, rfl⟩

theorem witness_reset : ({ waiting with rst := true } : State).rst = true := rfl

/-- A state that meets the invariant with something in every list it speaks of. -/
theorem witness_invariant : ∃ s t : State,
    s.Inv ∧ step s = .next t ∧ s.trace ≠ [] ∧ s.responses ≠ [] ∧ s.requester ≠ [] := by
  refine ⟨{ State.reset with
      requester := [0x0200290000]
      calls := 1
      trace := [⟨Config.handle.bus, Config.handle.devAddr, .writeThenRead [0x00] 1⟩]
      responses := [⟨.busError, 5, Config.errByte, .ok, 0, 0, true, 0⟩] },
    _, ⟨?_, ?_, rfl, ?_, ?_⟩, rfl, by simp, by simp, by simp⟩
  · intro c hc; simp at hc; subst hc; rfl
  · intro c hc; simp at hc; subst hc; exact ⟨rfl, rfl⟩
  · intro q hq; cases hq
  · intro r hr; simp at hr; subst hr; exact ⟨by simp, by simp, by simp, by simp, by simp⟩

theorem witness_range :
    InRange 0 ∧ InRange 255 ∧ ¬ InRange (-1) ∧ ¬ InRange 256 ∧ opField 0x0000FF0000 = 0x00 ∧
    opField 0x02FFFF0000 = 0x02 ∧ opField 0x03000301FF = 0x03 ∧ opField 0x10AB19CD5A = 0x10 := by decide

theorem witness_validate_next : ∃ (s t u : State),
    exec (.readRegister 255) s = .next t ∧ exec (.writeRegister 0 256) s = .next u :=
  ⟨State.reset, _, _, rfl, rfl⟩

/-- States whose next answer is the given one. -/
theorem witness_read_register :
    (ready 0 [answer 7 [0x19]]).answerTo (readFrameOf 0) = .reply ⟨7, [0x19]⟩ ∧ (7 : Status) ≠ 0 ∧
    (ready 0 [answer 0 []]).answerTo (readFrameOf 255) = .reply ⟨0, []⟩ ∧ ([] : List Byte).length ≠ 1 ∧
    (ready 0 [answer 0 [0x19, 0x00]]).answerTo (readFrameOf 255) = .reply ⟨0, [0x19, 0x00]⟩ ∧
    (ready 0 [answer 0 [0x19]]).answerTo (readFrameOf 255) = .reply ⟨0, [0x19]⟩ := by
  refine ⟨rfl, by decide, rfl, by decide, rfl, rfl⟩

theorem witness_write_register :
    (ready 0 [answer (-1) []]).answerTo (writeFrameOf 0 0x1FF) = .reply ⟨-1, []⟩ ∧ (-1 : Status) ≠ 0 ∧
    (ready 0 [answer 0 [0x19]]).answerTo (writeFrameOf 255 (-1)) = .reply ⟨0, [0x19]⟩ := by
  refine ⟨rfl, by decide, rfl⟩

theorem witness_named_and_unnamed : ∃ s t u t' u' : State,
    InRange 0x00 ∧ InRange 0x7B ∧ s.answers = .reply ⟨0, [0x19]⟩ :: s.answers.tail ∧
    exec (.readRegister 0x00) s = .next t ∧ exec (.readRegister 0x7B) s = .next u ∧
    exec (.writeRegister 0x00 1) s = .next t' ∧ exec (.writeRegister 0x7B 1) s = .next u' :=
  ⟨ready 0 [answer 0 [0x19]], _, _, _, _, by decide, by decide, rfl, rfl, rfl, rfl, rfl⟩

theorem witness_bit_2_of_the_magnitude :
    (magnitude (rawField 0x00 0x80)).getLsbD 2 = true ∧ (magnitude (rawField 0xFF 0x20)).getLsbD 2 = true := by decide

theorem witness_odd :
    rawNat 0x00 0x20 + rawNat 0xFF 0xE0 = 2048 ∧ rawNat 0x00 0x20 ≠ 1024 ∧
    rawNat 0x7F 0xE0 + rawNat 0x80 0x20 = 2048 ∧ rawNat 0x80 0x20 ≠ 1024 := by decide

theorem witness_temperature_reads :
    (Instr.readTempExt2, (0x22 : BitVec 8), (0x23 : Int), (0x24 : Int)) ∈ temperatureReads ∧
    opField 0x2200000000 = 0x22 ∧
    (ready 0 [answer 0 [0x19], answer 5 []]).answerTo (readFrameOf 0x23) = .reply ⟨0, [0x19]⟩ ∧
    (afterAccess .read 0x23 (readFrameOf 0x23) (ready 0 [answer 0 [0x19], answer 5 []])).answerTo (readFrameOf 0x24) =
      .reply ⟨5, []⟩ := by
  refine ⟨by decide, by decide, rfl, rfl⟩

theorem witness_passthrough_reads :
    (Instr.readRevision, (0x37 : BitVec 8), (0xFF : Int)) ∈ passthroughReads ∧ opField 0x3700000000 = 0x37 ∧
    (ready 0 [answer 0 [0x01]]).answerTo (readFrameOf 0xFF) = .reply ⟨0, [0x01]⟩ := by
  refine ⟨by decide, by decide, rfl⟩

theorem witness_passthrough_writes :
    (Instr.writeConvRate1, (0x43 : BitVec 8), (0x0A : Int)) ∈ passthroughWrites ∧ opField 0x4300000006 = 0x43 ∧
    (ready 0 [answer 2 []]).answerTo (writeFrameOf 0x0A 6) = .reply ⟨2, []⟩ := by
  refine ⟨by simp [passthroughWrites], by decide, rfl⟩

theorem witness_unanswered_call :
    (ready 0 [.never]).answerTo (readFrameOf 0) = .never ∧ (ready 0 [.never]).answerTo (writeFrameOf 255 1) = .never ∧
    (ready 0 [answer 0 [1], .never]).answerTo (readFrameOf 0x00) = .reply ⟨0, [1]⟩ ∧
    (afterAccess .read 0x00 (readFrameOf 0x00) (ready 0 [answer 0 [1], .never])).answerTo (readFrameOf 0x29) = .never :=
  ⟨rfl, rfl, rfl, rfl⟩

theorem witness_dbg_changes : ∃ (s t : State), exec (.setDebug 1) s = .next t ∧ t.dbg ≠ s.dbg :=
  ⟨State.reset, _, rfl, by decide⟩

theorem witness_dbg_changes_by_a_step : ∃ (s t s' t' : State),
    step s = .next t ∧ t.dbg ≠ s.dbg ∧ s.rst = true ∧ step s' = .next t' ∧ t'.dbg ≠ s'.dbg ∧ s'.rst = false :=
  ⟨{ State.reset with dbg := .info, rst := true }, _, ready 0x5000000001 [], _, rfl, by decide, rfl, rfl, by decide, rfl⟩

theorem witness_commands_without_access : ∃ (s t u v w : State),
    exec (.validateAddress 256) s = .next t ∧ exec (.addressName 0) s = .next u ∧
    exec (.decode 0x80 0x00) s = .next v ∧ exec (.setDebug 3) s = .next w ∧
    ∀ level, Instr.addressName 0 ≠ .setDebug level :=
  ⟨State.reset, _, _, _, _, rfl, rfl, rfl, rfl, fun _ h => by cases h⟩

theorem witness_commands_and_calls : ∃ (s t u : State),
    s.inFlight = none ∧ exec .readTempInt s = .next t ∧ t.inFlight = some (.writeThenRead [0x29] 1) ∧
    exec .readStatus s = .next u ∧ u.inFlight = none :=
  ⟨ready 0 [answer 0 [1], .never], _, _, rfl, rfl, rfl, rfl, rfl⟩

theorem witness_debug_level : ∃ (s t s' t' : State),
    SameButDebug s t ∧ s.dbg ≠ t.dbg ∧ step s = .next s' ∧ step t = .next t' :=
  ⟨ready 0x0200290000 [answer 0 [1]], { ready 0x0200290000 [answer 0 [1]] with dbg := .detailed }, _, _, rfl, by decide,
   rfl, rfl⟩

theorem witness_nothing_emitted : ∃ (s t : State), s.dbg = .none ∧ step s = .next t ∧ t.trace ≠ s.trace :=
  ⟨ready 0x0200290000 [answer 0 [1]], _, rfl, rfl, by decide +revert⟩

theorem witness_earlier_results : ∃ (s t : State), step s = .next t ∧ s.responses ≠ [] :=
  ⟨after { ready 0x5000000001 [] with requester := [0x5000000001, 0x0000FF0000] }, _, rfl, by decide⟩

theorem witness_failure_and_success : ∃ (s t u t' u' : State),
    InRange 255 ∧
    exec (.readRegister 255) { s with answers := [answer 7 []] } = .next t ∧
    exec (.readRegister 255) { s with answers := [answer 0 [1]] } = .next u ∧ t.responses ≠ u.responses ∧
    exec (.writeRegister 255 0) { s with answers := [answer 7 []] } = .next t' ∧
    exec (.writeRegister 255 0) { s with answers := [answer 0 []] } = .next u' ∧ t'.responses ≠ u'.responses := by
  refine ⟨State.reset, _, _, _, _, by decide, rfl, rfl, ?_, rfl, rfl, by decide⟩
  intro h
  have h' := congrArg (List.map Response.kind) h
  exact absurd h' (by decide)

/-- InvalidAddress, a failed write, a temperature read whose second read failed, SET_DEBUG with level 3; and a word
to come. -/
theorem witness_failed_commands : ∃ (s t u v x : State) (r1 r2 r3 r4 : Response),
    s.inFlight = none ∧
    exec (.readRegister 256) s = .next t ∧ t.responses = s.responses ++ [r1] ∧ r1.failed = true ∧
    exec (.writeRegister 255 0) { s with answers := [answer 7 []] } = .next u ∧ u.responses = s.responses ++ [r2] ∧
      r2.failed = true ∧
    exec .readTempInt { s with answers := [answer 0 [1], answer 0 []] } = .next v ∧ v.responses = s.responses ++ [r3] ∧
      r3.kind = .ok ∧ r3.failed = true ∧
    exec (.setDebug 3) s = .next x ∧ x.responses = s.responses ++ [r4] ∧ r4.failed = true ∧
    t.rst = false ∧ t.requester = [0x5000000002] ∧ decode 0x5000000002 = .ok (.setDebug 2) :=
  ⟨ready 0x5000000002 [], _, _, _, _, _, _, _, _, rfl, rfl, rfl, rfl, rfl, rfl, rfl, rfl, rfl, rfl, rfl, rfl, rfl, rfl,
   rfl, rfl, rfl⟩

theorem witness_frame_requests : isFrame (.writeThenRead [0xFF] 1) = true ∧ isFrame (.writeThenRead [0xFF] 2) = false := by
  decide

end Sys2Proof.Tests
end

section
/-! SUPPORT. What an idle block does with the word on its command port (R5, R164). -/

namespace Sys2Proof.Machine

/-- Accepting the word on the command port leaves the words behind it (R164). -/
theorem State.accept_of_requester {s : State} {w : CommandWord} {rest : List CommandWord}
    (hq : s.requester = w :: rest) : s.accept = { s with requester := rest } := by
  rw [State.accept, hq, List.tail_cons]

/-- A ready block runs the command of a word that decodes (R5, R164). -/
theorem step_of_decode_ok {s : State} {w : CommandWord} {rest : List CommandWord} {i : Instr}
    (hr : s.rst = false) (hf : s.inFlight = none) (hq : s.requester = w :: rest) (hd : decode w = .ok i) :
    step s = exec i s.accept := by
  simp [step, hr, hf, hq, hd]

/-- Settles O5: the step runs the command on the accepted state, which is the state without the presented word. -/
theorem stepRunsTheDecodedCommand : Obligations.StepRunsTheDecodedCommand := by
  intro s w rest i hr hf hq hd
  rw [step_of_decode_ok hr hf hq hd, State.accept_of_requester hq]

end Sys2Proof.Machine
end

section
/-! SUPPORT. What every command does to the state, built up from the shared operations: a relation that each operation
meets holds between a state and what a command makes of it (R10, R13, R31). -/

namespace Sys2Proof.Machine

/-- A relation between a state and a later one that every shared operation but `setDbg` meets. -/
structure KeptByOperations (R : State → State → Prop) : Prop where
  trans : ∀ {s t u : State}, R s t → R t u → R s u
  noteAccess : ∀ operation addr (s : State), R s (s.noteAccess operation addr)
  logCall : ∀ q (s : State), R s (s.logCall q)
  respond : ∀ r (s : State), R s (s.respond r)
  wait : ∀ q (s : State), R s (s.wait q)

section
variable {R : State → State → Prop} (hR : KeptByOperations R)
include hR

theorem KeptByOperations.call (operation : RegisterOperation) (addr : Int) (q : AdapterRequest) (s : State) :
    R s ((s.noteAccess operation addr).logCall q) :=
  hR.trans (hR.noteAccess operation addr s) (hR.logCall q _)

theorem KeptByOperations.runRead (addr : Int) (s : State) : R s (runRead addr s) := by
  rcases runRead_cases addr s with ⟨-, e⟩ | ⟨-, r, -, e⟩ | ⟨-, -, e⟩ <;> rw [e]
  · exact hR.trans (hR.noteAccess ..) (hR.respond ..)
  · exact hR.trans (hR.call ..) (hR.respond ..)
  · exact hR.trans (hR.call ..) (hR.wait ..)

theorem KeptByOperations.runWrite (addr value : Int) (s : State) : R s (runWrite addr value s) := by
  rcases runWrite_cases addr value s with ⟨-, e⟩ | ⟨-, r, -, e⟩ | ⟨-, -, e⟩ <;> rw [e]
  · exact hR.trans (hR.noteAccess ..) (hR.respond ..)
  · exact hR.trans (hR.call ..) (hR.respond ..)
  · exact hR.trans (hR.call ..) (hR.wait ..)

theorem KeptByOperations.runReadTemp {addrInt addrFract : Int} (hi : validAddress addrInt = true)
    (hf : validAddress addrFract = true) (s : State) : R s (runReadTemp addrInt addrFract s) := by
  rcases runReadTemp_cases hi hf s with ⟨-, e⟩ | ⟨r1, -, -, e⟩ | ⟨r1, r2, -, -, e⟩ <;> rw [e]
  · exact hR.trans (hR.call ..) (hR.wait ..)
  · exact hR.trans (hR.call ..) (hR.trans (hR.call ..) (hR.wait ..))
  · exact hR.trans (hR.call ..) (hR.trans (hR.call ..) (hR.respond ..))

/-- A command meets the relation, or it is a SET_DEBUG that writes DBG and responds. -/
theorem KeptByOperations.exec {i : Instr} {s t : State} (h : exec i s = .next t) :
    R s t ∨ ∃ level d, i = .setDebug level ∧ t = (s.setDbg d).respond (plainResponse .ok 0 0 0) := by
  rcases exec_shape i s with ⟨kind, code, data, temp, e, -⟩ | ⟨level, d, hi, -, e⟩ | ⟨addr, e⟩ | ⟨addr, value, e⟩ |
    ⟨addrInt, addrFract, hv, hf, e⟩ <;> obtain rfl := Host.Outcome.next.inj (h.symm.trans e)
  · exact .inl (hR.respond ..)
  · exact .inr ⟨level, d, hi, rfl⟩
  · exact .inl (hR.runRead addr s)
  · exact .inl (hR.runWrite addr value s)
  · exact .inl (hR.runReadTemp hv hf s)

end

end Sys2Proof.Machine
end

section
/-! SUPPORT. The frame of all commands: what they keep, and what only grows (R13, R15, R31). -/

namespace Sys2Proof.Machine

theorem keptByOperations_sameDbg : KeptByOperations fun s t => t.dbg = s.dbg where
  trans hst htu := htu.trans hst
  noteAccess _ _ _ := rfl
  logCall _ _ := rfl
  respond _ _ := rfl
  wait _ _ := rfl

/-- A command that changes DBG is SET_DEBUG (R13). -/
theorem exec_dbg_ne {i : Instr} {s t : State} (h : exec i s = .next t) (hd : t.dbg ≠ s.dbg) :
    ∃ level, i = .setDebug level := by
  rcases keptByOperations_sameDbg.exec h with he | ⟨level, d, hi, -⟩
  · exact absurd he hd
  · exact ⟨level, hi⟩

/-- A step that changes DBG is a reset, or runs a SET_DEBUG word (R13, R160). -/
theorem step_dbg_ne {s t : State} (h : step s = .next t) (hd : t.dbg ≠ s.dbg) :
    s.rst = true ∨ ∃ w level, s.requester.head? = some w ∧ decode w = .ok (.setDebug level) := by
  rcases step_cases s with ⟨hr, -⟩ | ⟨-, -, e⟩ | ⟨-, -, w, rest, hq, ⟨i, hw, e⟩ | ⟨_, -, e⟩⟩
  · exact .inl hr
  · obtain rfl := Host.Outcome.next.inj (h.symm.trans e)
    exact absurd rfl hd
  · obtain ⟨level, rfl⟩ := exec_dbg_ne (e.symm.trans h) hd
    exact .inr ⟨w, level, by rw [hq, List.head?_cons], hw⟩
  · obtain rfl := Host.Outcome.next.inj (h.symm.trans e)
    exact absurd rfl hd

/-- Settles O33: of all operations of a command only SET_DEBUG's writes DBG; of all steps only a reset and one that
runs a command can. -/
theorem onlySetDebugAndResetChangeDbg : Obligations.OnlySetDebugAndResetChangeDbg :=
  ⟨fun _ _ _ => exec_dbg_ne, fun _ _ => step_dbg_ne⟩

/-- `t` is `s` with calls made, and responses and messages added: the inputs are kept, and each call made has used up
one answer and advanced the counter by one (R15, R31). -/
structure State.Extends (s t : State) : Prop where
  handle : t.handle = s.handle
  rst : t.rst = s.rst
  requester : t.requester = s.requester
  responses : s.responses <+: t.responses
  diagnostics : s.diagnostics <+: t.diagnostics
  calls : ∃ made, t.trace = s.trace ++ made ∧ t.calls = s.calls + made.length ∧
    t.answers = s.answers.drop made.length

theorem State.Extends.trans {s t u : State} (hst : s.Extends t) (htu : t.Extends u) : s.Extends u where
  handle := htu.handle.trans hst.handle
  rst := htu.rst.trans hst.rst
  requester := htu.requester.trans hst.requester
  responses := hst.responses.trans htu.responses
  diagnostics := hst.diagnostics.trans htu.diagnostics
  calls := by
    obtain ⟨made, htrace, hcalls, hanswers⟩ := hst.calls
    obtain ⟨more, htrace', hcalls', hanswers'⟩ := htu.calls
    exact ⟨made ++ more, by rw [htrace', htrace, List.append_assoc],
      by rw [hcalls', hcalls, List.length_append, Nat.add_assoc],
      by rw [hanswers', hanswers, List.drop_drop, List.length_append]⟩

theorem State.extends_noteAccess (operation : RegisterOperation) (addr : Int) (s : State) :
    s.Extends (s.noteAccess operation addr) :=
  ⟨rfl, rfl, rfl, List.prefix_rfl, List.prefix_append .., [], by simp⟩

theorem State.extends_logCall (q : AdapterRequest) (s : State) : s.Extends (s.logCall q) :=
  ⟨rfl, rfl, rfl, List.prefix_rfl, List.prefix_rfl, [s.callTo q], by simp⟩

theorem State.extends_respond (r : Response) (s : State) : s.Extends (s.respond r) :=
  ⟨rfl, rfl, rfl, List.prefix_append .., List.prefix_rfl, [], by simp⟩

theorem State.extends_wait (q : AdapterRequest) (s : State) : s.Extends (s.wait q) :=
  ⟨rfl, rfl, rfl, List.prefix_rfl, List.prefix_rfl, [], by simp⟩

theorem State.extends_setDbg (d : DebugLevel) (s : State) : s.Extends (s.setDbg d) :=
  ⟨rfl, rfl, rfl, List.prefix_rfl, List.prefix_rfl, [], by simp⟩

theorem keptByOperations_extends : KeptByOperations State.Extends where
  trans := State.Extends.trans
  noteAccess := State.extends_noteAccess
  logCall := State.extends_logCall
  respond := State.extends_respond
  wait := State.extends_wait

theorem exec_extends {i : Instr} {s t : State} (h : exec i s = .next t) : s.Extends t := by
  rcases keptByOperations_extends.exec h with he | ⟨_, d, -, rfl⟩
  · exact he
  · exact (s.extends_setDbg d).trans (State.extends_respond ..)

/-- Settles O35: every operation of a command extends the state, and extending is transitive. -/
theorem commandsKeepHandleAndInputs : Obligations.CommandsKeepHandleAndInputs := by
  intro i s t h
  obtain ⟨hhandle, hrst, hrequester, hresponses, hdiagnostics, made, htrace, hcalls, hanswers⟩ := exec_extends h
  have hmade : t.calls - s.calls = made.length := by rw [hcalls, Nat.add_sub_cancel_left]
  exact ⟨hhandle, hrst, hrequester, ⟨made, htrace.symm⟩, hresponses, hdiagnostics,
    by rw [hmade, htrace, List.length_append, Nat.add_sub_cancel_left], by rw [hmade, hanswers]⟩

/-- Settles O10: the reset values are what `State.reset` writes down. -/
theorem resetStateIsIdleAtLevelNone : Obligations.ResetStateIsIdleAtLevelNone :=
  ⟨rfl, rfl, rfl, rfl, rfl, rfl⟩

end Sys2Proof.Machine
end

section
/-! SUPPORT. Earlier outputs do not show (R10, R18): every operation commutes with putting earlier calls, responses and
messages in front of those the state holds, so every command and every step does. -/

namespace Sys2Proof.Machine

/-- The three histories of a state: calls made, responses produced, messages emitted. -/
structure Outputs where
  trace : List AdapterCall
  responses : List Response
  diagnostics : List String

/-- `s` with earlier outputs in front of its own. -/
def State.prepend (o : Outputs) (s : State) : State :=
  { s with
    trace := o.trace ++ s.trace
    responses := o.responses ++ s.responses
    diagnostics := o.diagnostics ++ s.diagnostics }

/-- The operation does to a state with earlier outputs what it does to the state without them. -/
def IgnoresEarlierOutputs (f : State → State) : Prop :=
  ∀ (o : Outputs) (s : State), f (s.prepend o) = (f s).prepend o

/-! ### The operations -/

@[simp] theorem State.prepend_rst (o : Outputs) (s : State) : (s.prepend o).rst = s.rst := rfl
@[simp] theorem State.prepend_inFlight (o : Outputs) (s : State) : (s.prepend o).inFlight = s.inFlight := rfl
@[simp] theorem State.prepend_requester (o : Outputs) (s : State) : (s.prepend o).requester = s.requester := rfl
@[simp] theorem State.prepend_answerTo (o : Outputs) (s : State) (q : AdapterRequest) :
    (s.prepend o).answerTo q = s.answerTo q := rfl
@[simp] theorem State.prepend_wait (o : Outputs) (q : AdapterRequest) (s : State) :
    (s.prepend o).wait q = (s.wait q).prepend o := rfl
@[simp] theorem State.prepend_setDbg (o : Outputs) (d : DebugLevel) (s : State) :
    (s.prepend o).setDbg d = (s.setDbg d).prepend o := rfl
@[simp] theorem State.prepend_accept (o : Outputs) (s : State) : (s.prepend o).accept = s.accept.prepend o := rfl
@[simp] theorem State.prepend_applyReset (o : Outputs) (s : State) :
    (s.prepend o).applyReset = s.applyReset.prepend o := rfl

@[simp] theorem State.prepend_respond (o : Outputs) (r : Response) (s : State) :
    (s.prepend o).respond r = (s.respond r).prepend o := by
  simp [State.prepend, State.respond]

@[simp] theorem State.prepend_logCall (o : Outputs) (q : AdapterRequest) (s : State) :
    (s.prepend o).logCall q = (s.logCall q).prepend o := by
  simp [State.prepend, State.logCall, State.callTo]

@[simp] theorem State.prepend_noteAccess (o : Outputs) (operation : RegisterOperation) (addr : Int) (s : State) :
    (s.prepend o).noteAccess operation addr = (s.noteAccess operation addr).prepend o := by
  simp [State.prepend, State.noteAccess, State.emission]

/-! ### Register accesses -/

theorem readAccess_prepend (addr : Int) (o : Outputs) (s : State) :
    readAccess addr (s.prepend o) = ((readAccess addr s).1, (readAccess addr s).2.prepend o) := by
  rcases readAccess_cases addr s with ⟨h, e⟩ | ⟨h, r, ha, e⟩ | ⟨h, ha, e⟩
  · simp [e, readAccess_refused h]
  · simp [e, readAccess_reply h (s := s.prepend o) ha]
  · simp [e, readAccess_never h (s := s.prepend o) ha]

theorem runRead_ignoresEarlierOutputs (addr : Int) : IgnoresEarlierOutputs (runRead addr) := by
  intro o s
  simp only [runRead, readAccess_prepend]
  rcases readAccess addr s with ⟨r | q, t⟩
  · simp [State.finishRead_eq]
  · simp

theorem writeAccess_prepend (addr value : Int) (o : Outputs) (s : State) :
    writeAccess addr value (s.prepend o) = ((writeAccess addr value s).1, (writeAccess addr value s).2.prepend o) := by
  cases h : validAddress addr
  · simp [writeAccess_refused h]
  · cases ha : s.answerTo (writeFrame addr value) with
    | reply r => simp [writeAccess_reply h ha, writeAccess_reply h (s := s.prepend o) ha]
    | never => simp [writeAccess_never h ha, writeAccess_never h (s := s.prepend o) ha]

theorem runWrite_ignoresEarlierOutputs (addr value : Int) : IgnoresEarlierOutputs (runWrite addr value) := by
  intro o s
  simp only [runWrite, writeAccess_prepend]
  rcases writeAccess addr value s with ⟨r | q, t⟩
  · simp [State.finishWrite_eq]
  · simp

theorem runReadTemp_ignoresEarlierOutputs (addrInt addrFract : Int) :
    IgnoresEarlierOutputs (runReadTemp addrInt addrFract) := by
  intro o s
  simp only [runReadTemp, readAccess_prepend]
  rcases readAccess addrInt s with ⟨r1 | q, t⟩
  · simp only [readAccess_prepend]
    rcases readAccess addrFract t with ⟨r2 | q, u⟩ <;> simp
  · simp

/-! ### Commands and steps -/

theorem respond_ignoresEarlierOutputs (r : Response) : IgnoresEarlierOutputs (State.respond r) :=
  fun o s => s.prepend_respond o r

/-- Every command is a function of the state that ignores earlier outputs. -/
theorem exec_ignoresEarlierOutputs (i : Instr) :
    ∃ f, IgnoresEarlierOutputs f ∧ ∀ s, exec i s = .next (f s) := by
  cases i with
  | validateAddress addr =>
    cases h : validAddress addr
    · exact ⟨_, respond_ignoresEarlierOutputs (plainResponse .invalidAddress 0 0 0), fun s => by
        simp [exec, execValidateAddress, h, State.raise_eq]⟩
    · exact ⟨_, respond_ignoresEarlierOutputs (plainResponse .ok 0 0 0), fun s => by
        simp [exec, execValidateAddress, h, State.succeed_eq]⟩
  | addressName addr =>
    exact ⟨_, respond_ignoresEarlierOutputs (plainResponse .ok 0 (addressNameId addr) 0), fun _ => rfl⟩
  | decode a b => exact ⟨_, respond_ignoresEarlierOutputs (plainResponse .ok 0 0 (decodePort a b)), fun _ => rfl⟩
  | setDebug level =>
    cases h : debugLevelOf level with
    | none =>
      exact ⟨_, respond_ignoresEarlierOutputs (plainResponse .illegalCommand 0 0 0), fun s => by
        simp [exec, execSetDebug, h, State.illegalCommand_eq]⟩
    | some d =>
      exact ⟨fun s => (s.setDbg d).respond (plainResponse .ok 0 0 0), fun o s => by simp, fun s => by
        simp [exec, execSetDebug, h, State.succeed_eq]⟩
  | readRegister addr => exact ⟨_, runRead_ignoresEarlierOutputs addr, fun _ => rfl⟩
  | readStatus => exact ⟨_, runRead_ignoresEarlierOutputs regStatus, fun _ => rfl⟩
  | readConfig0 => exact ⟨_, runRead_ignoresEarlierOutputs regConfig0, fun _ => rfl⟩
  | readConfig1 => exact ⟨_, runRead_ignoresEarlierOutputs regConfig1, fun _ => rfl⟩
  | readConvRate0 => exact ⟨_, runRead_ignoresEarlierOutputs regConvRate0, fun _ => rfl⟩
  | readConvRate1 => exact ⟨_, runRead_ignoresEarlierOutputs regConvRate1, fun _ => rfl⟩
  | readProductId => exact ⟨_, runRead_ignoresEarlierOutputs regProductId, fun _ => rfl⟩
  | readManufacturerId => exact ⟨_, runRead_ignoresEarlierOutputs regManufacturerId, fun _ => rfl⟩
  | readRevision => exact ⟨_, runRead_ignoresEarlierOutputs regRevision, fun _ => rfl⟩
  | writeRegister addr value => exact ⟨_, runWrite_ignoresEarlierOutputs addr value, fun _ => rfl⟩
  | writeConfig0 value => exact ⟨_, runWrite_ignoresEarlierOutputs regConfig0 value, fun _ => rfl⟩
  | writeConfig1 value => exact ⟨_, runWrite_ignoresEarlierOutputs regConfig1 value, fun _ => rfl⟩
  | writeConvRate0 value => exact ⟨_, runWrite_ignoresEarlierOutputs regConvRate0 value, fun _ => rfl⟩
  | writeConvRate1 value => exact ⟨_, runWrite_ignoresEarlierOutputs regConvRate1 value, fun _ => rfl⟩
  | readTempInt => exact ⟨_, runReadTemp_ignoresEarlierOutputs regInternalInt regInternalFract, fun _ => rfl⟩
  | readTempExt1 => exact ⟨_, runReadTemp_ignoresEarlierOutputs regExternal1Int regExternal1Fract, fun _ => rfl⟩
  | readTempExt2 => exact ⟨_, runReadTemp_ignoresEarlierOutputs regExternal2Int regExternal2Fract, fun _ => rfl⟩

/-- Every step answers a next state, and earlier outputs come through it unread. -/
theorem step_prepend (s : State) : ∃ t, step s = .next t ∧ ∀ o, step (s.prepend o) = .next (t.prepend o) := by
  rcases step_cases s with ⟨hr, e⟩ | ⟨hr, hidle, e⟩ | ⟨hr, hf, w, rest, hq, ⟨i, hw, e⟩ | ⟨err, hw, e⟩⟩
  · exact ⟨_, e, fun o => by simp [step, hr]⟩
  · refine ⟨_, e, fun o => ?_⟩
    rcases hidle with hbusy | hnone
    · obtain ⟨q, hf⟩ := Option.ne_none_iff_exists'.mp hbusy
      simp [step, hr, hf]
    · cases hf : s.inFlight <;> simp [step, hr, hf, hnone]
  · obtain ⟨f, hf', hexec⟩ := exec_ignoresEarlierOutputs i
    refine ⟨f s.accept, e.trans (hexec _), fun o => ?_⟩
    rw [step_of_decode_ok (s := s.prepend o) hr hf hq hw, State.prepend_accept, hexec, hf']
  · exact ⟨_, e, fun o => by simp [step, hr, hf, hq, hw, State.illegalCommand_eq]⟩

/-- Settles O40: the step from the state without histories says what is added; whatever histories stand in front come
through the step unread, those of `s` among them. -/
theorem earlierResultsDoNotShow : Obligations.EarlierResultsDoNotShow := by
  intro s t h
  obtain ⟨u, -, hu⟩ := step_prepend { s with trace := [], responses := [], diagnostics := [] }
  have hs (tr : List AdapterCall) (rs : List Response) (ds : List String) :
      step { s with trace := tr, responses := rs, diagnostics := ds } = .next (u.prepend ⟨tr, rs, ds⟩) := by
    simpa [State.prepend] using hu ⟨tr, rs, ds⟩
  obtain rfl : t = u.prepend ⟨s.trace, s.responses, s.diagnostics⟩ :=
    Host.Outcome.next.inj (h.symm.trans (hs s.trace s.responses s.diagnostics))
  exact ⟨u.trace, u.responses, u.diagnostics, hs⟩

end Sys2Proof.Machine
end

section
/-! SUPPORT. The invariant of the machine: it holds at reset, every operation of a command keeps it, and so does every
step (R15, R26, R27, R31, R43, R44, R164). -/

namespace Sys2Proof.Machine

/-! ### Coherent responses -/

/-- A response with one outcome is coherent when its code and its temperature agree with its kind (R43, R44). -/
theorem plainResponse_coherent {kind : Kind} {code : Status} {temp : BitVec 32} (data : Byte)
    (hcode : code ≠ 0 ↔ kind = .busError) (htemp : kind = .invalidAddress ∨ kind = .illegalCommand → temp = 0) :
    (plainResponse kind code data temp).Coherent where
  failed_iff := failedBit_iff kind .ok
  code_iff := hcode
  code2_iff := by simp [plainResponse]
  kind2_read := .inl rfl
  second_only_after_read h := ⟨rfl, rfl, htemp h⟩

/-- Both reads of a temperature read are made at addresses in range, so neither outcome is InvalidAddress (R100). -/
theorem temperatureResponse_coherent (r1 r2 : AdapterReply) (temp : BitVec 32) :
    (temperatureResponse (readCheck r1) (readCheck r2) temp).Coherent where
  failed_iff := failedBit_iff _ _
  code_iff := (readCheck_kind r1).2
  code2_iff := (readCheck_kind r2).2
  kind2_read := (readCheck_kind r2).1
  second_only_after_read h := by
    rcases (readCheck_kind r1).1 with hk | hk | hk <;> simp [temperatureResponse, hk] at h

/-! ### The operations -/

/-- Settles O12: after reset nothing has been called or answered. -/
theorem resetStateMeetsTheInvariant : Obligations.ResetStateMeetsTheInvariant where
  frames_only _ hc := absurd hc List.not_mem_nil
  to_handle _ hc := absurd hc List.not_mem_nil
  counted := rfl
  outstanding _ hq := nomatch hq
  coherent _ hr := absurd hr List.not_mem_nil

namespace State.Inv

theorem accept {s : State} (h : s.Inv) : s.accept.Inv :=
  ⟨h.frames_only, h.to_handle, h.counted, h.outstanding, h.coherent⟩

theorem setDbg {s : State} (h : s.Inv) (d : DebugLevel) : (s.setDbg d).Inv :=
  ⟨h.frames_only, h.to_handle, h.counted, h.outstanding, h.coherent⟩

theorem noteAccess {s : State} (h : s.Inv) (operation : RegisterOperation) (addr : Int) :
    (s.noteAccess operation addr).Inv :=
  ⟨h.frames_only, h.to_handle, h.counted, h.outstanding, h.coherent⟩

/-- No call is outstanding after reset (R160). -/
theorem applyReset {s : State} (h : s.Inv) : s.applyReset.Inv where
  frames_only := h.frames_only
  to_handle := h.to_handle
  counted := h.counted
  outstanding _ hq := nomatch hq
  coherent := h.coherent

theorem respond {s : State} {r : Response} (h : s.Inv) (hr : r.Coherent) : (s.respond r).Inv where
  frames_only := h.frames_only
  to_handle := h.to_handle
  counted := h.counted
  outstanding := h.outstanding
  coherent := List.forall_mem_append.2 ⟨h.coherent, List.forall_mem_singleton.2 hr⟩

/-- An idle block may make a call whose request is a frame. A busy one may not: its outstanding call would no longer be
the last one. -/
theorem logCall {s : State} {q : AdapterRequest} (h : s.Inv) (hidle : s.inFlight = none) (hq : isFrame q = true) :
    (s.logCall q).Inv where
  frames_only := List.forall_mem_append.2 ⟨h.frames_only, List.forall_mem_singleton.2 hq⟩
  to_handle := List.forall_mem_append.2 ⟨h.to_handle, List.forall_mem_singleton.2 ⟨rfl, rfl⟩⟩
  counted := by simp [h.counted]
  outstanding p hp := by simp [hidle] at hp
  coherent := h.coherent

/-- A call just made may be waited for: it is the last one in the trace. -/
theorem logCall_wait {s : State} {q : AdapterRequest} (h : (s.logCall q).Inv) : ((s.logCall q).wait q).Inv where
  frames_only := h.frames_only
  to_handle := h.to_handle
  counted := h.counted
  outstanding p hp := by
    obtain rfl := Option.some.inj hp
    simp
  coherent := h.coherent

/-- The call of one register access from an idle block. -/
theorem call {s : State} {q : AdapterRequest} (h : s.Inv) (hidle : s.inFlight = none) (hq : isFrame q = true)
    (operation : RegisterOperation) (addr : Int) : ((s.noteAccess operation addr).logCall q).Inv :=
  (h.noteAccess operation addr).logCall hidle hq

/-! ### Register accesses, commands and the step -/

theorem runRead {s : State} (h : s.Inv) (hidle : s.inFlight = none) (addr : Int) : (runRead addr s).Inv := by
  have hcall : (s.afterRead addr).Inv := h.call hidle rfl .read addr
  rcases runRead_cases addr s with ⟨-, e⟩ | ⟨-, r, -, e⟩ | ⟨-, -, e⟩ <;> rw [e]
  · exact (h.noteAccess .read addr).respond (plainResponse_coherent _ (by decide) fun _ => rfl)
  · exact hcall.respond (plainResponse_coherent _ (readCheck_kind r).2 fun _ => rfl)
  · exact hcall.logCall_wait

theorem runWrite {s : State} (h : s.Inv) (hidle : s.inFlight = none) (addr value : Int) :
    (runWrite addr value s).Inv := by
  have hcall : ((s.noteAccess .write addr).logCall (writeFrame addr value)).Inv := h.call hidle rfl .write addr
  rcases runWrite_cases addr value s with ⟨-, e⟩ | ⟨-, r, -, e⟩ | ⟨-, -, e⟩ <;> rw [e]
  · exact (h.noteAccess .write addr).respond (plainResponse_coherent _ (by decide) fun _ => rfl)
  · exact hcall.respond (plainResponse_coherent _ (writeCheck_kind r).2 fun _ => rfl)
  · exact hcall.logCall_wait

/-- The second read is only made once the first is answered, so no call is outstanding then (R100). -/
theorem runReadTemp {s : State} (h : s.Inv) (hidle : s.inFlight = none) {addrInt addrFract : Int}
    (hi : validAddress addrInt = true) (hf : validAddress addrFract = true) :
    (runReadTemp addrInt addrFract s).Inv := by
  have hfirst : (s.afterRead addrInt).Inv := h.call hidle rfl .read addrInt
  have hsecond : ((s.afterRead addrInt).afterRead addrFract).Inv := hfirst.call hidle rfl .read addrFract
  rcases runReadTemp_cases hi hf s with ⟨-, e⟩ | ⟨r1, -, -, e⟩ | ⟨r1, r2, -, -, e⟩ <;> rw [e]
  · exact hfirst.logCall_wait
  · exact hsecond.logCall_wait
  · exact hsecond.respond (temperatureResponse_coherent r1 r2 _)

/-- Every command keeps the invariant when the block is idle (R164). -/
theorem exec {i : Instr} {s t : State} (h : s.Inv) (hidle : s.inFlight = none) (he : exec i s = .next t) : t.Inv := by
  rcases exec_shape i s with ⟨kind, code, data, temp, e, hkind⟩ | ⟨_, d, -, -, e⟩ | ⟨addr, e⟩ | ⟨addr, value, e⟩ |
    ⟨addrInt, addrFract, hi, hf, e⟩ <;> obtain rfl := Host.Outcome.next.inj (he.symm.trans e)
  · refine h.respond (plainResponse_coherent data ?_ ?_) <;>
      rcases hkind with ⟨rfl, rfl⟩ | ⟨rfl | rfl, rfl, rfl⟩ <;> simp
  · exact (h.setDbg d).respond (plainResponse_coherent 0 (by decide) fun _ => rfl)
  · exact h.runRead hidle addr
  · exact h.runWrite hidle addr value
  · exact h.runReadTemp hidle hi hf

end State.Inv

/-- Settles O13: a command runs from an idle block only, and each of its operations keeps the invariant there. -/
theorem everyStepKeepsTheInvariant : Obligations.EveryStepKeepsTheInvariant := by
  intro s t h hstep
  rcases step_cases s with ⟨-, e⟩ | ⟨-, -, e⟩ | ⟨-, hidle, w, rest, -, ⟨i, -, e⟩ | ⟨_, -, e⟩⟩
  · obtain rfl := Host.Outcome.next.inj (hstep.symm.trans e)
    exact h.applyReset
  · obtain rfl := Host.Outcome.next.inj (hstep.symm.trans e)
    exact h
  · exact h.accept.exec hidle (e.symm.trans hstep)
  · obtain rfl := Host.Outcome.next.inj (hstep.symm.trans e)
    exact h.accept.respond (plainResponse_coherent 0 (by decide) fun _ => rfl)

end Sys2Proof.Machine
end

section
/-! SUPPORT. What an answered register access puts on the response port: the reply decides it, the address does not
(R20, R63). -/

namespace Sys2Proof.Machine

/-- The response to an answered read depends on the reply only (R64). -/
theorem runRead_responses_of_reply {addr : Int} (hv : validAddress addr = true) {s : State} {r : AdapterReply}
    (ha : s.answerTo (readFrame addr) = .reply r) :
    (runRead addr s).responses =
      s.responses ++ [plainResponse (readCheck r).kind (readCheck r).code (readCheck r).data 0] := by
  simp [runRead, readAccess_reply hv ha, State.finishRead_eq]

/-- The response to an answered write depends on the reply only (R68). -/
theorem runWrite_responses_of_reply {addr : Int} (hv : validAddress addr = true) {value : Int} {s : State}
    {r : AdapterReply} (ha : s.answerTo (writeFrame addr value) = .reply r) :
    (runWrite addr value s).responses =
      s.responses ++ [plainResponse (writeCheck r).kind (writeCheck r).code 0 0] := by
  simp [runWrite, writeAccess_reply hv ha, State.finishWrite_eq]

/-- Settles O20: a listed answer is the answer to either frame, and the reply alone decides the response. -/
theorem namedAndUnnamedAddressesAreTreatedAlike : Obligations.NamedAndUnnamedAddressesAreTreatedAlike := by
  intro a b value s t u r ha hb hs
  have hva := (validAddress_iff a).2 ha
  have hvb := (validAddress_iff b).2 hb
  have hreply := State.answerTo_listed hs
  constructor <;> rintro ⟨⟩ ⟨⟩
  · rw [runRead_responses_of_reply hva (hreply _), runRead_responses_of_reply hvb (hreply _)]
  · rw [runWrite_responses_of_reply hva (hreply _), runWrite_responses_of_reply hvb (hreply _)]

end Sys2Proof.Machine
end

section
/-! SUPPORT. What the decoder answers, said once for all words: it reads the opcode and the operand fields of the
opcode's format, and refuses every other opcode (R40 to R42, R51 a). -/

namespace Sys2Proof

/-- The command with its operands replaced by those that stand in `w` (R41). -/
def Instr.withOperandsOf (w : CommandWord) : Instr → Instr
  | .validateAddress _ => .validateAddress (addrOperand w)
  | .addressName _ => .addressName (addrOperand w)
  | .readRegister _ => .readRegister (addrOperand w)
  | .writeRegister _ _ => .writeRegister (addrOperand w) (valueOperand w)
  | .decode _ _ => .decode (intByteOperand w) (fractByteOperand w)
  | .writeConfig0 _ => .writeConfig0 (valueOperand w)
  | .writeConfig1 _ => .writeConfig1 (valueOperand w)
  | .writeConvRate0 _ => .writeConvRate0 (valueOperand w)
  | .writeConvRate1 _ => .writeConvRate1 (valueOperand w)
  | .setDebug _ => .setDebug (levelOperand w)
  | i => i

/-- The opcode decides which command a word is, the operand fields decide the operands (R41, R42). -/
theorem decode_of_opcode {w : CommandWord} {i : Instr} (h : opField w = i.opcode) :
    decode w = .ok (i.withOperandsOf w) := by
  rw [decode, h]
  cases i <;> rfl

theorem Instr.opcode_mem (i : Instr) : i.opcode ∈ Claims.opcodes := by
  cases i <;> simp [Instr.opcode, Claims.opcodes]

/-- All that the decoder can do: answer the command of the word's opcode, or refuse an opcode outside the map. -/
theorem decode_cases (w : CommandWord) :
    (∃ i : Instr, opField w = i.opcode ∧ i.withOperandsOf w = i ∧ decode w = .ok i) ∨
    (opField w ∉ Claims.opcodes ∧ decode w = .error (.illegalOpcode (opField w))) := by
  unfold decode
  split
  case h_22 => exact .inr ⟨by simp_all [Claims.opcodes], rfl⟩
  all_goals exact .inl ⟨_, ‹_›, rfl, rfl⟩

/-- What is decoded has the word's opcode, and its operands stand in the word (R41, R42). -/
theorem decode_eq_ok_iff (w : CommandWord) (i : Instr) :
    decode w = .ok i ↔ opField w = i.opcode ∧ i.withOperandsOf w = i := by
  constructor
  · intro h
    rcases decode_cases w with ⟨j, hop, hj, e⟩ | ⟨-, e⟩
    · obtain rfl : i = j := Except.ok.inj (h.symm.trans e)
      exact ⟨hop, hj⟩
    · exact nomatch h.symm.trans e
  · rintro ⟨hop, hi⟩
    rw [decode_of_opcode hop, hi]

/-- A refusal names the word's opcode, which is outside the map (R51 a). -/
theorem decode_eq_error_iff (w : CommandWord) (e : DecodeError) :
    decode w = .error e ↔ opField w ∉ Claims.opcodes ∧ e = .illegalOpcode (opField w) := by
  rcases decode_cases w with ⟨i, hop, -, h⟩ | ⟨hop, h⟩
  · have hmem : opField w ∈ Claims.opcodes := by rw [hop]; exact i.opcode_mem
    simp [h, hmem]
  · simp [h, hop, eq_comm]

/-! ### Encoding, then decoding -/

theorem addrOperand_packWord (op : BitVec 8) {addr : Int} (b : BitVec 16) (h : addrFits addr = true) :
    addrOperand (packWord op (BitVec.ofInt 16 addr) b) = addr := by
  rw [addrOperand, aField_packWord, toInt_ofInt_of_addrFits h]

theorem valueOperand_packWord (op : BitVec 8) (a : BitVec 16) {value : Int} (h : valueFits value = true) :
    valueOperand (packWord op a (BitVec.ofInt 16 value)) = value := by
  rw [valueOperand, bField_packWord, toNat_ofInt_of_valueFits h]

theorem intByteOperand_packWord (op : BitVec 8) (x : Byte) (b : BitVec 16) :
    intByteOperand (packWord op (x.setWidth 16) b) = x := by
  rw [intByteOperand, aField_packWord, setWidth_extract]

theorem fractByteOperand_packWord (op : BitVec 8) (a : BitVec 16) (x : Byte) :
    fractByteOperand (packWord op a (x.setWidth 16)) = x := by
  rw [fractByteOperand, bField_packWord, setWidth_extract]

theorem levelOperand_packWord (op : BitVec 8) (a : BitVec 16) (level : BitVec 2) :
    levelOperand (packWord op a (level.setWidth 16)) = level := by
  have := level.isLt
  apply BitVec.eq_of_toNat_eq
  rw [levelOperand, bField_packWord, BitVec.extractLsb'_toNat, BitVec.toNat_setWidth, Nat.shiftRight_zero]
  omega

/-- The word of a well-formed command carries its operands (R41). -/
theorem Instr.withOperandsOf_encode {i : Instr} (h : i.wellFormed = true) : i.withOperandsOf (encode i) = i := by
  cases i with
  | validateAddress addr | addressName addr | readRegister addr => exact congrArg _ (addrOperand_packWord _ _ h)
  | writeRegister addr value =>
    obtain ⟨ha, hv⟩ := Bool.and_eq_true_iff.1 h
    exact congrArg₂ _ (addrOperand_packWord _ _ ha) (valueOperand_packWord _ _ hv)
  | decode x y => exact congrArg₂ _ (intByteOperand_packWord _ _ _) (fractByteOperand_packWord _ _ _)
  | writeConfig0 value | writeConfig1 value | writeConvRate0 value | writeConvRate1 value =>
    exact congrArg _ (valueOperand_packWord _ _ h)
  | setDebug level => exact congrArg _ (levelOperand_packWord _ _ _)
  | _ => rfl

/-- Settles O1: the word of a command has the command's opcode, and carries its operands when they fit. -/
theorem decodeOfEncodeIsTheCommand : Obligations.DecodeOfEncodeIsTheCommand := fun i h =>
  (decode_eq_ok_iff _ _).2 ⟨opField_packWord _ _ _, i.withOperandsOf_encode h⟩

/-! ### Decoding, then encoding -/

theorem packWord_and (op op' : BitVec 8) (a a' b b' : BitVec 16) :
    packWord op a b &&& packWord op' a' b' = packWord (op &&& op') (a &&& a') (b &&& b') := by
  unfold packWord
  rw [BitVec.and_append, BitVec.and_append]

/-- Masking a word under its opcode masks its two operand fields. -/
theorem and_packWord (w : CommandWord) (ma mb : BitVec 16) :
    w &&& packWord 0xFF ma mb = packWord (opField w) (aField w &&& ma) (bField w &&& mb) := by
  have hop : opField w &&& 0xFF = opField w := BitVec.and_allOnes
  conv_lhs => rw [← packWord_fields w, packWord_and, hop]

theorem Instr.wellFormed_withOperandsOf (i : Instr) (w : CommandWord) : (i.withOperandsOf w).wellFormed = true := by
  cases i with
  | validateAddress | addressName | readRegister => exact addrFits_toInt _
  | writeRegister => exact Bool.and_eq_true_iff.2 ⟨addrFits_toInt _, valueFits_toNat _⟩
  | writeConfig0 | writeConfig1 | writeConvRate0 | writeConvRate1 => exact valueFits_toNat _
  | _ => rfl

/-- The low `n` bits of a field, widened again, are the field masked (R41, formats D and L). -/
theorem setWidth_extractLsb'_eq_and (x : BitVec 16) {n : Nat} (h : n ≤ 16) :
    (x.extractLsb' 0 n).setWidth 16 = x &&& BitVec.ofNat 16 (2 ^ n - 1) := by
  have hn : 2 ^ n ≤ 2 ^ 16 := Nat.pow_le_pow_right (by decide) h
  have hpos := Nat.two_pow_pos n
  apply BitVec.eq_of_toNat_eq
  rw [BitVec.toNat_and, BitVec.toNat_ofNat, Nat.mod_eq_of_lt (by omega), Nat.and_two_pow_sub_one_eq_mod,
    BitVec.toNat_setWidth, BitVec.extractLsb'_toNat, Nat.shiftRight_zero,
    Nat.mod_eq_of_lt ((Nat.mod_lt _ hpos).trans_le hn)]

theorem ofInt_addrOperand (w : CommandWord) : BitVec.ofInt 16 (addrOperand w) = aField w &&& 0xFFFF :=
  BitVec.ofInt_toInt.trans BitVec.and_allOnes.symm

theorem ofInt_valueOperand (w : CommandWord) : BitVec.ofInt 16 (valueOperand w) = bField w &&& 0xFFFF := by
  rw [valueOperand, BitVec.ofInt_natCast, BitVec.ofNat_toNat, BitVec.setWidth_eq]
  exact BitVec.and_allOnes.symm

/-- The word written for a command's fields is `w` masked when its fields are those of `w` masked. -/
theorem packWord_eq_and {w : CommandWord} {op : BitVec 8} {a b : BitVec 16} (ma mb : BitVec 16)
    (hop : opField w = op) (ha : a = aField w &&& ma) (hb : b = bField w &&& mb) :
    packWord op a b = w &&& packWord 0xFF ma mb := by
  rw [and_packWord, hop, ha, hb]

/-- Encoding the operands that stand in `w` gives back `w` with the bits the format does not read cleared (R41; log 15). -/
theorem encode_withOperandsOf {w : CommandWord} {i : Instr} (hop : opField w = i.opcode) :
    encode (i.withOperandsOf w) = w &&& Claims.readMask i := by
  have cleared (x : BitVec 16) : 0 = x &&& 0 := BitVec.and_zero.symm
  cases i with
  | validateAddress | addressName | readRegister =>
    exact packWord_eq_and 0xFFFF 0 hop (ofInt_addrOperand w) (cleared _)
  | writeRegister => exact packWord_eq_and 0xFFFF 0xFFFF hop (ofInt_addrOperand w) (ofInt_valueOperand w)
  | decode =>
    exact packWord_eq_and 0xFF 0xFF hop (setWidth_extractLsb'_eq_and _ (by decide))
      (setWidth_extractLsb'_eq_and _ (by decide))
  | writeConfig0 | writeConfig1 | writeConvRate0 | writeConvRate1 =>
    exact packWord_eq_and 0 0xFFFF hop (cleared _) (ofInt_valueOperand w)
  | setDebug => exact packWord_eq_and 0 0x3 hop (cleared _) (setWidth_extractLsb'_eq_and _ (by decide))
  | _ => exact packWord_eq_and 0 0 hop (cleared _) (cleared _)

/-- Settles O2: the operands decoded are those that stand in the word, which fit, and written back they are the word's
fields masked. -/
theorem decodedCommandGivesBackTheBitsItReads : Obligations.DecodedCommandGivesBackTheBitsItReads := by
  intro w i h
  obtain ⟨hop, hi⟩ := (decode_eq_ok_iff w i).1 h
  exact ⟨hi ▸ i.wellFormed_withOperandsOf w, by rw [← encode_withOperandsOf hop, hi]⟩

/-! ### Refusals -/

/-- Settles O3: the decoder refuses exactly the opcodes outside the map, by their name; the count is by enumeration. -/
theorem refusedOpcodesAreTheOther235 : Obligations.RefusedOpcodesAreTheOther235 := by
  refine ⟨fun w => ?_, fun w e h => ?_, by decide +kernel⟩
  · rw [decode_eq_error_iff, and_iff_left rfl]
  · exact ((decode_eq_error_iff w e).1 h).2

/-- Settles O4 by running the decoder on the eleven words. -/
theorem writtenOutWordsDecode : Obligations.WrittenOutWordsDecode := by
  unfold Obligations.WrittenOutWordsDecode
  decide

end Sys2Proof
end

section
/-! SUPPORT. A command from an idle block answers once or waits (R43, R164, R168). -/

namespace Sys2Proof.Machine

/-- From `s` to `t` exactly one response came and no call is outstanding, or a call is outstanding and none came. -/
def AnswersOrWaits (s t : State) : Prop :=
  (t.inFlight = none ∧ ∃ r, t.responses = s.responses ++ [r]) ∨ (t.inFlight ≠ none ∧ t.responses = s.responses)

theorem AnswersOrWaits.of_respond {s u : State} (r : Response) (hidle : u.inFlight = none)
    (hu : u.responses = s.responses) : AnswersOrWaits s (u.respond r) :=
  .inl ⟨hidle, r, by rw [State.respond_responses, hu]⟩

theorem AnswersOrWaits.of_wait {s u : State} (q : AdapterRequest) (hu : u.responses = s.responses) :
    AnswersOrWaits s (u.wait q) :=
  .inr ⟨Option.some_ne_none q, hu⟩

theorem runRead_answersOrWaits (addr : Int) {s : State} (hidle : s.inFlight = none) :
    AnswersOrWaits s (runRead addr s) := by
  rcases runRead_cases addr s with ⟨-, e⟩ | ⟨-, r, -, e⟩ | ⟨-, -, e⟩ <;> rw [e]
  · exact .of_respond _ hidle rfl
  · exact .of_respond _ hidle rfl
  · exact .of_wait _ rfl

theorem runWrite_answersOrWaits (addr value : Int) {s : State} (hidle : s.inFlight = none) :
    AnswersOrWaits s (runWrite addr value s) := by
  rcases runWrite_cases addr value s with ⟨-, e⟩ | ⟨-, r, -, e⟩ | ⟨-, -, e⟩ <;> rw [e]
  · exact .of_respond _ hidle rfl
  · exact .of_respond _ hidle rfl
  · exact .of_wait _ rfl

theorem runReadTemp_answersOrWaits {addrInt addrFract : Int} (hi : validAddress addrInt = true)
    (hf : validAddress addrFract = true) {s : State} (hidle : s.inFlight = none) :
    AnswersOrWaits s (runReadTemp addrInt addrFract s) := by
  rcases runReadTemp_cases hi hf s with ⟨-, e⟩ | ⟨r1, -, -, e⟩ | ⟨r1, r2, -, -, e⟩ <;> rw [e]
  · exact .of_wait _ rfl
  · exact .of_wait _ rfl
  · exact .of_respond _ hidle rfl

/-- Settles O37: whatever the command's shape, it ends with `respond` or with `wait`, and before that no operation
touches the responses. -/
theorem aCommandProducesOneResponseOrWaits : Obligations.ACommandProducesOneResponseOrWaits := by
  intro i s t hidle h
  rcases exec_shape i s with ⟨_, _, _, _, e, -⟩ | ⟨_, _, -, -, e⟩ | ⟨addr, e⟩ | ⟨addr, value, e⟩ |
    ⟨_, _, hi, hf, e⟩ <;> obtain rfl := Host.Outcome.next.inj (h.symm.trans e)
  · exact AnswersOrWaits.of_respond _ hidle rfl
  · exact AnswersOrWaits.of_respond _ hidle rfl
  · exact runRead_answersOrWaits addr hidle
  · exact runWrite_answersOrWaits addr value hidle
  · exact runReadTemp_answersOrWaits hi hf hidle

end Sys2Proof.Machine
end

section
/-! SUPPORT. The answer to an illegal command (R51, R148). -/

namespace Sys2Proof.Machine

/-- An illegal command's response has `kind` and, following from it, `failed` set, and every other field 0. -/
theorem State.illegalCommand_eq_withResponse (s : State) :
    s.illegalCommand = Claims.withResponse (Claims.single .illegalCommand 0 0 true) s := rfl

/-- A ready block answers a word that does not decode with IllegalCommand (R51 a, R148). -/
theorem step_of_decode_error {s : State} {w : CommandWord} {rest : List CommandWord} {e : DecodeError}
    (hr : s.rst = false) (hf : s.inFlight = none) (hq : s.requester = w :: rest) (hd : decode w = .error e) :
    step s = .next s.accept.illegalCommand := by
  simp [step, hr, hf, hq, hd]

/-- Settles O6: both illegal commands end in the same operation, on the accepted state and on the given one. -/
theorem illegalCommandsAreAnsweredWithoutEffect : Obligations.IllegalCommandsAreAnsweredWithoutEffect := by
  constructor
  · intro s w rest e hr hf hq hd
    rw [step_of_decode_error hr hf hq hd, State.accept_of_requester hq, State.illegalCommand_eq_withResponse]
  · intro s
    exact congrArg Host.Outcome.next s.illegalCommand_eq_withResponse

end Sys2Proof.Machine
end

section
/-! SUPPORT. The bytes of the two frames and the port images (R44 to R48). -/

namespace Sys2Proof.Machine

/-- The address byte of an address in range is the address (R46). -/
theorem toNat_addressByte {addr : Int} (h : Claims.InRange addr) : ((addressByte addr).toNat : Int) = addr := by
  obtain ⟨h0, h255⟩ := h
  rw [addressByte, BitVec.toNat_ofInt]
  omega

/-- The byte written is the value modulo 256, for every integer (R48). -/
theorem toNat_maskValue (value : Int) : ((maskValue value).toNat : Int) = value % 256 := by
  rw [maskValue, BitVec.toNat_ofInt]
  omega

/-- Settles O19: the frames are made of the address byte and the masked value. -/
theorem frameBytesAreAddressAndMaskedValue : Obligations.FrameBytesAreAddressAndMaskedValue := by
  refine ⟨fun addr h => ⟨addressByte addr, rfl, toNat_addressByte h, fun value => ?_⟩, by decide, by decide⟩
  exact ⟨maskValue value, rfl, toNat_maskValue value⟩

/-- Exactly the frames have a port image (R27, R45). -/
theorem isFrame_iff_isSome_requestPort (q : AdapterRequest) : isFrame q = true ↔ (requestPort q).isSome = true := by
  unfold isFrame requestPort
  split <;> simp

/-- Settles O43: the images are computed from the two frames' patterns. -/
theorem portImagesOfFramesAndKinds : Obligations.PortImagesOfFramesAndKinds :=
  ⟨fun _ => rfl, fun _ _ => rfl, isFrame_iff_isSome_requestPort, rfl, rfl, rfl, rfl, rfl⟩

end Sys2Proof.Machine
end

section
/-! SUPPORT. The codec's steps on natural numbers (R81 to R83), and the parts of the binary32 pattern (R49). -/

namespace Sys2Proof.Machine

open Claims

/-! ### Steps 1 to 3 -/

/-- The top three bits of the fractional byte, moved down, are a division (R47). -/
theorem toNat_and_shiftRight_five (x : Byte) : ((x &&& 0xE0) >>> 5).toNat = x.toNat / 32 := by
  have hx := x.isLt
  have h7 : (x.toNat &&& 224) >>> 5 = x.toNat >>> 5 &&& (2 ^ 3 - 1) := Nat.shiftRight_and_distrib
  rw [BitVec.toNat_ushiftRight, BitVec.toNat_and]
  refine h7.trans ?_
  rw [Nat.and_two_pow_sub_one_eq_mod, Nat.shiftRight_eq_div_pow]
  omega

/-- Step 1 puts the integer byte over the three bits, without overlap (R81). -/
theorem toNat_rawField (x y : Byte) : (rawField x y).toNat = rawNat x y := by
  have hx := x.isLt
  have hy := y.isLt
  have hlow : (((y &&& 0xE0) >>> 5).setWidth 11).toNat = y.toNat / 32 := by
    rw [BitVec.toNat_setWidth, toNat_and_shiftRight_five]
    omega
  have hhigh : (x.setWidth 11 <<< 3).toNat = x.toNat <<< 3 := by
    rw [BitVec.toNat_shiftLeft, BitVec.toNat_setWidth, Nat.shiftLeft_eq, Nat.shiftLeft_eq]
    omega
  rw [rawField, BitVec.toNat_or, hlow, hhigh, ← Nat.shiftLeft_add_eq_or_of_lt (by omega), Nat.shiftLeft_eq, rawNat]
  omega

theorem rawNegative_iff (raw : BitVec 11) : rawNegative raw = true ↔ 1024 ≤ raw.toNat := by
  rw [rawNegative, BitVec.getLsbD_last raw, decide_eq_true_eq]

/-- Step 2 on natural numbers (R82). -/
theorem toNat_magnitude (raw : BitVec 11) : (magnitude raw).toNat = magnitudeNat raw.toNat := by
  have hraw := raw.isLt
  rw [magnitude, magnitudeNat]
  simp only [rawNegative_iff]
  split
  · have hmask : (~~~raw + 1) &&& 0x7FF = -raw := by rw [BitVec.neg_eq_not_add]; exact BitVec.and_allOnes
    rw [hmask, BitVec.toNat_neg]
    omega
  · rfl

theorem toNat_wholePart (mag : BitVec 11) : (wholePart mag).toNat = mag.toNat / 8 := by
  have hmag := mag.isLt
  have h : mag.toNat >>> 3 &&& 255 = mag.toNat >>> 3 % 2 ^ 8 := Nat.and_two_pow_sub_one_eq_mod _ 8
  rw [wholePart, BitVec.toNat_setWidth, BitVec.toNat_and, BitVec.toNat_ushiftRight]
  refine (congrArg (· % 2 ^ 8) h).trans ?_
  rw [Nat.shiftRight_eq_div_pow]
  omega

theorem toNat_eighthsPart (mag : BitVec 11) : (eighthsPart mag).toNat = mag.toNat % 4 := by
  have h : mag.toNat &&& 3 = mag.toNat % 2 ^ 2 := Nat.and_two_pow_sub_one_eq_mod _ 2
  rw [eighthsPart, BitVec.toNat_setWidth, BitVec.toNat_and]
  exact (congrArg (· % 2 ^ 2) h).trans (Nat.mod_mod _ _)

/-- `m` of R49 from the raw field: bit 2 of the magnitude is lost (R83, C1). -/
theorem decodeTemperature_m (x y : Byte) :
    (decodeTemperature x y).m = 8 * (magnitudeNat (rawNat x y) / 8) + magnitudeNat (rawNat x y) % 4 := by
  rw [Temperature.m, decodeTemperature, toNat_wholePart, toNat_eighthsPart, toNat_magnitude, toNat_rawField]

theorem decodeTemperature_negative_iff (x y : Byte) :
    (decodeTemperature x y).negative = true ↔ 1024 ≤ rawNat x y := by
  rw [← toNat_rawField, ← rawNegative_iff]
  rfl

/-- The raw fields whose magnitude in eighths is 0: the magnitude is 0 or 4 (R83). -/
theorem decodeTemperature_m_eq_zero_iff (x y : Byte) :
    (decodeTemperature x y).m = 0 ↔ rawNat x y = 0 ∨ rawNat x y = 4 ∨ rawNat x y = 2044 := by
  have hx := x.isLt
  have hy := y.isLt
  have hraw : rawNat x y < 2048 := by rw [rawNat]; omega
  rw [decodeTemperature_m, magnitudeNat]
  split <;> omega

/-! ### The pattern -/

theorem Temperature.m_lt (t : Temperature) : t.m < 2 ^ 11 := by
  have hw := t.whole.isLt
  have he := t.eighths.isLt
  rw [Temperature.m]
  omega

/-- The 31 bits of the pattern below the sign, as a number: exponent and fraction of R49. -/
def Temperature.lowBits (t : Temperature) : Nat :=
  if t.m = 0 then 0 else (124 + topBit t.m) * 2 ^ 23 + (t.m - 2 ^ topBit t.m) * 2 ^ (23 - topBit t.m)

theorem topBit_le {m : Nat} (h : m < 2 ^ 11) : topBit m ≤ 10 := by
  rcases Nat.eq_zero_or_pos m with rfl | hpos
  · decide
  · exact Nat.lt_succ_iff.1 ((Nat.log2_lt hpos.ne').2 h)

/-- The fraction of R49 fits its 23 bits. -/
theorem fraction_lt {m : Nat} (h : m < 2 ^ 11) : (m - 2 ^ topBit m) * 2 ^ (23 - topBit m) < 2 ^ 23 := by
  have hk := topBit_le h
  have hlt : m < 2 ^ (topBit m + 1) := Nat.lt_log2_self
  have hsplit : 2 ^ topBit m * 2 ^ (23 - topBit m) = 2 ^ 23 := by rw [← pow_add]; congr 1; omega
  rw [← hsplit]
  exact Nat.mul_lt_mul_of_pos_right (by rw [pow_succ] at hlt; omega) (Nat.two_pow_pos _)

theorem Temperature.lowBits_lt (t : Temperature) : t.lowBits < 2 ^ 31 := by
  have hk := topBit_le t.m_lt
  have hf := fraction_lt t.m_lt
  rw [Temperature.lowBits]
  split <;> omega

theorem Temperature.lowBits_eq_zero_iff (t : Temperature) : t.lowBits = 0 ↔ t.m = 0 := by
  rw [Temperature.lowBits]
  split <;> omega

/-- The pattern is the sign bit above the other 31 (R49). -/
theorem Temperature.toNat_binary32 (t : Temperature) :
    t.binary32.toNat = t.negative.toNat * 2 ^ 31 + t.lowBits := by
  have hk := topBit_le t.m_lt
  have hf := fraction_lt t.m_lt
  have hsign : ((if t.negative then 1 else 0 : BitVec 32) <<< 31).toNat = t.negative.toNat <<< 31 := by
    cases t.negative <;> rfl
  simp only [Temperature.binary32, Temperature.lowBits]
  split
  · rw [hsign, Nat.shiftLeft_eq, Nat.add_zero]
  · have hexp : (BitVec.ofNat 32 (124 + topBit t.m) <<< 23).toNat = (124 + topBit t.m) <<< 23 := by
      rw [BitVec.toNat_shiftLeft, BitVec.toNat_ofNat, Nat.shiftLeft_eq, Nat.shiftLeft_eq]
      omega
    have hfrac : (BitVec.ofNat 32 ((t.m - 2 ^ topBit t.m) <<< (23 - topBit t.m))).toNat =
        (t.m - 2 ^ topBit t.m) * 2 ^ (23 - topBit t.m) := by
      rw [BitVec.toNat_ofNat, Nat.shiftLeft_eq]
      omega
    rw [BitVec.toNat_or, BitVec.toNat_or, hsign, hexp, hfrac, Nat.or_assoc, ← Nat.shiftLeft_add_eq_or_of_lt hf,
      ← Nat.shiftLeft_add_eq_or_of_lt (by rw [Nat.shiftLeft_eq]; omega), Nat.shiftLeft_eq, Nat.shiftLeft_eq]

theorem Temperature.binary32_getLsbD_31 (t : Temperature) : t.binary32.getLsbD 31 = t.negative := by
  have hlow : t.lowBits < 2147483648 := t.lowBits_lt
  rw [BitVec.getLsbD_last t.binary32, t.toNat_binary32]
  cases t.negative <;> simp [hlow]

/-- A zero keeps its sign: the pattern of either zero stands for that zero only (R50, D14). -/
theorem Temperature.binary32_eq_signedZero_iff (t : Temperature) (sign : Bool) :
    t.binary32 = BitVec.ofNat 32 (sign.toNat * 2 ^ 31) ↔ t.negative = sign ∧ t.m = 0 := by
  have hlow : t.lowBits < 2147483648 := t.lowBits_lt
  rw [← BitVec.toNat_inj, t.toNat_binary32, ← t.lowBits_eq_zero_iff]
  cases t.negative <;> cases sign <;> simp [hlow.ne]

/-- Settles O26: the sign is bit 10 of the raw field, and `m` is 0 for the raw fields 0, 4 and 2044 only, of which the
last is negative and is `intByte` 0xFF with `fractByte / 32` 4. -/
theorem negativeZeroArisesForOneRawValueOnly : Obligations.NegativeZeroArisesForOneRawValueOnly := by
  intro x y
  have hx := x.isLt
  have hy := y.isLt
  have hneg := decodeTemperature_negative_iff x y
  have hm := decodeTemperature_m_eq_zero_iff x y
  refine ⟨?_, ?_, ?_⟩
  · rw [decodePort, Temperature.binary32_getLsbD_31, Bool.eq_iff_iff, hneg, BitVec.getLsbD_last x, decide_eq_true_eq,
      rawNat]
    omega
  · have hff : x = 0xFF ↔ x.toNat = 255 := BitVec.toNat_inj.symm
    refine (Temperature.binary32_eq_signedZero_iff _ true).trans ?_
    rw [hneg, hm, hff, rawNat]
    omega
  · refine (Temperature.binary32_eq_signedZero_iff _ false).trans ?_
    rw [← Bool.not_eq_true, hneg, hm, rawNat]
    omega

end Sys2Proof.Machine
end

section
/-! SUPPORT. A register access whose outcome is known, in the words of the statements: refused at step 1, or answered
(R64, R68). -/

namespace Sys2Proof.Machine

open Claims

/-! ### The outcome of an answered access -/

theorem readCheck_of_status_ne {r : AdapterReply} (h : r.status ≠ 0) : readCheck r = .busError r.status :=
  if_pos h

theorem readCheck_of_length_ne {r : AdapterReply} (h : r.status = 0) (hl : r.rbytes.length ≠ 1) :
    readCheck r = .shortRead := by
  rcases readCheck_cases r with ⟨hs, -⟩ | ⟨-, -, e⟩ | ⟨-, b, hb, -⟩
  · exact absurd h hs
  · exact e
  · exact absurd (by rw [hb, List.length_singleton]) hl

theorem readCheck_of_byte {r : AdapterReply} {b : Byte} (h : r.status = 0) (hb : r.rbytes = [b]) :
    readCheck r = .ok b := by
  rcases readCheck_cases r with ⟨hs, -⟩ | ⟨-, hl, -⟩ | ⟨-, c, hc, e⟩
  · exact absurd h hs
  · exact absurd (by rw [hb, List.length_singleton]) hl
  · obtain rfl : c = b := List.singleton_inj.1 (hc.symm.trans hb)
    exact e

theorem writeCheck_of_status_ne {r : AdapterReply} (h : r.status ≠ 0) : writeCheck r = .busError r.status :=
  if_pos h

theorem writeCheck_of_status_eq {r : AdapterReply} (h : r.status = 0) : writeCheck r = .ok :=
  if_neg (not_not.2 h)

/-! ### The command that is one access -/

/-- Outside 0 to 255 a read ends at step 1 (R64). -/
theorem runRead_of_not_inRange {addr : Int} (h : ¬ InRange addr) (s : State) :
    runRead addr s =
      withResponse (single .invalidAddress 0 Config.errByte true) (afterRefusedAccess .read addr s) := by
  rw [runRead, readAccess_refused ((validAddress_false_iff addr).2 h)]
  rfl

/-- Outside 0 to 255 a write ends at step 1, whatever the value (R68). -/
theorem runWrite_of_not_inRange {addr : Int} (h : ¬ InRange addr) (value : Int) (s : State) :
    runWrite addr value s = withResponse (single .invalidAddress 0 0 true) (afterRefusedAccess .write addr s) := by
  rw [runWrite, writeAccess_refused ((validAddress_false_iff addr).2 h)]
  rfl

/-- An answered read makes its one call and responds with the outcome of the reply (R64 to R67). -/
theorem runRead_of_reply {addr : Int} {s : State} {r : AdapterReply} {o : ReadResult} (h : InRange addr)
    (ha : s.answerTo (readFrameOf addr) = .reply r) (ho : readCheck r = o) :
    runRead addr s =
      withResponse (single o.kind o.code o.data (failedBit o.kind .ok))
        (afterAccess .read addr (readFrameOf addr) s) := by
  simp only [runRead, readAccess_reply ((validAddress_iff addr).2 h) ha, ho, State.finishRead_eq]
  rfl

/-- An answered write makes its one call and responds with the outcome of the status (R68). -/
theorem runWrite_of_reply {addr value : Int} {s : State} {r : AdapterReply} {o : WriteResult} (h : InRange addr)
    (ha : s.answerTo (writeFrameOf addr value) = .reply r) (ho : writeCheck r = o) :
    runWrite addr value s =
      withResponse (single o.kind o.code 0 (failedBit o.kind .ok))
        (afterAccess .write addr (writeFrameOf addr value) s) := by
  simp only [runWrite, writeAccess_reply ((validAddress_iff addr).2 h) ha, ho, State.finishWrite_eq]
  rfl

/-- In range a read makes its one call, answered or not. -/
theorem runRead_trace {addr : Int} (h : InRange addr) (s : State) :
    (runRead addr s).trace = s.trace ++ [s.callTo (readFrameOf addr)] := by
  rcases runRead_cases addr s with ⟨hv, -⟩ | ⟨-, _, -, e⟩ | ⟨-, -, e⟩
  · exact absurd h ((validAddress_false_iff addr).1 hv)
  · rw [e]; rfl
  · rw [e]; rfl

/-- In range a write makes its one call, answered or not. -/
theorem runWrite_trace {addr : Int} (h : InRange addr) (value : Int) (s : State) :
    (runWrite addr value s).trace = s.trace ++ [s.callTo (writeFrameOf addr value)] := by
  rcases runWrite_cases addr value s with ⟨hv, -⟩ | ⟨-, _, -, e⟩ | ⟨-, -, e⟩
  · exact absurd h ((validAddress_false_iff addr).1 hv)
  · rw [e]; rfl
  · rw [e]; rfl

/-! ### READ_REGISTER and WRITE_REGISTER -/

/-- Settles O17: the address check decides whether there is a call, and the reply's three outcomes decide the response. -/
theorem readRegisterAnswersInTheOrderOfItsSteps : Obligations.ReadRegisterAnswersInTheOrderOfItsSteps := by
  refine ⟨fun w hop => decode_of_opcode (i := .readRegister 0) hop, fun addr s => ⟨?_, ?_, ?_, ?_⟩⟩
  · intro h
    exact congrArg Host.Outcome.next (runRead_of_not_inRange h s)
  · intro r h ha hs
    exact congrArg Host.Outcome.next (runRead_of_reply h ha (readCheck_of_status_ne hs))
  · intro r h ha hs hl
    exact congrArg Host.Outcome.next (runRead_of_reply h ha (readCheck_of_length_ne hs hl))
  · intro r b h ha hs hb
    exact congrArg Host.Outcome.next (runRead_of_reply h ha (readCheck_of_byte hs hb))

/-- Settles O18: the address check decides whether there is a call, and the reply's status decides the response. -/
theorem writeRegisterSendsTheMaskedValue : Obligations.WriteRegisterSendsTheMaskedValue := by
  refine ⟨fun w hop => decode_of_opcode (i := .writeRegister 0 0) hop, fun addr value s => ⟨?_, ?_, ?_⟩⟩
  · intro h
    exact congrArg Host.Outcome.next (runWrite_of_not_inRange h value s)
  · intro r h ha hs
    exact congrArg Host.Outcome.next (runWrite_of_reply h ha (writeCheck_of_status_ne hs))
  · intro r h ha hs
    exact congrArg Host.Outcome.next (runWrite_of_reply h ha (writeCheck_of_status_eq hs))

/-! ### VALIDATE_ADDRESS -/

theorem exec_validateAddress_of_inRange {addr : Int} (h : InRange addr) (s : State) :
    exec (.validateAddress addr) s = .next (withResponse (single .ok 0 0 false) s) := by
  rw [exec, execValidateAddress, if_pos ((validAddress_iff addr).2 h)]
  rfl

theorem exec_validateAddress_of_not_inRange {addr : Int} (h : ¬ InRange addr) (s : State) :
    exec (.validateAddress addr) s = .next (withResponse (single .invalidAddress 0 0 true) s) := by
  rw [exec, execValidateAddress, if_neg (mt (validAddress_iff addr).1 h)]
  rfl

/-- Settles O14: all three commands branch on the same range, and in range an access makes its call. -/
theorem validateAddressChecksTheRange : Obligations.ValidateAddressChecksTheRange := by
  refine ⟨fun w hop => decode_of_opcode (i := .validateAddress 0) hop, fun _ s h => exec_validateAddress_of_inRange h s,
    fun _ s h => exec_validateAddress_of_not_inRange h s, fun addr value s h => ⟨?_, ?_⟩,
    fun addr value s t h => ⟨?_, ?_⟩⟩
  · exact congrArg Host.Outcome.next (runRead_of_not_inRange h s)
  · exact congrArg Host.Outcome.next (runWrite_of_not_inRange h value s)
  · rintro ⟨⟩
    exact runRead_trace h s
  · rintro ⟨⟩
    exact runWrite_trace h value s

end Sys2Proof.Machine
end

section
/-! SUPPORT. The names of register addresses: the row of the table, or the default (R62). -/

namespace Sys2Proof.Machine

open Claims

/-- Id and text of an address come from one row of the table, or both are the default. -/
theorem addressName_cases (addr : Int) :
    (∃ row ∈ registerNames, addressNameId addr = row.id ∧ addressNameText addr = row.text) ∨
    (addressNameId addr = 14 ∧ addressNameText addr = otherName) := by
  rw [addressNameId, addressNameText]
  cases h : registerRow addr with
  | none => exact .inr ⟨rfl, rfl⟩
  | some row => exact .inl ⟨row, (registerRow_some h).1, rfl, rfl⟩

/-- Id 14 stands for the default text, and no other does. -/
theorem addressNameId_eq_14_iff (addr : Int) : addressNameId addr = 14 ↔ addressNameText addr = otherName := by
  rcases addressName_cases addr with ⟨row, hrow, hid, htext⟩ | ⟨hid, htext⟩
  · obtain ⟨hid14, hother, -, -⟩ := registerNames_ids row hrow
    rw [hid, htext, iff_false_left hid14]
    exact hother
  · exact iff_of_true hid htext

/-- Two addresses share their id exactly when they share their text. -/
theorem addressNameId_eq_iff (a b : Int) :
    addressNameId a = addressNameId b ↔ addressNameText a = addressNameText b := by
  rcases addressName_cases b with ⟨rowB, hB, hidB, htextB⟩ | ⟨hidB, htextB⟩
  · rcases addressName_cases a with ⟨rowA, hA, hidA, htextA⟩ | ⟨hidA, htextA⟩
    · obtain ⟨-, -, -, hsame⟩ := registerNames_ids rowA hA
      rw [hidA, hidB, htextA, htextB]
      exact hsame rowB hB
    · rw [hidA, htextA, eq_comm, addressNameId_eq_14_iff, eq_comm]
  · rw [hidB, htextB, addressNameId_eq_14_iff]

theorem addressNameText_ne_empty (addr : Int) : addressNameText addr ≠ "" := by
  rcases addressName_cases addr with ⟨row, hrow, -, htext⟩ | ⟨-, htext⟩
  · obtain ⟨-, -, hne, -⟩ := registerNames_ids row hrow
    rwa [htext]
  · rw [htext]
    decide

/-- Settles O16: ids and texts come from the same row of a table without repetitions; the count is by enumeration. -/
theorem everyAddressHasANonEmptyName : Obligations.EveryAddressHasANonEmptyName :=
  ⟨addressNameText_ne_empty, by decide, addressNameId_eq_14_iff, addressNameId_eq_iff, by decide +kernel⟩

/-- ADDRESS_NAME puts the name id on the response and does nothing else (R62). -/
theorem exec_addressName {addr : Int} {id : Byte} (h : addressNameId addr = id) (s : State) :
    exec (.addressName addr) s = .next (withResponse (single .ok 0 id false) s) := by
  rw [← h]
  rfl

/-- Settles O15: at each of the 14 addresses the row of the table is found, at every other one the default. -/
theorem addressNameAnswersTheNameId : Obligations.AddressNameAnswersTheNameId := by
  intro addr s
  apply exec_addressName
  by_cases h : addr ∈ registerNames.map (·.addr)
  · obtain ⟨row, hrow, rfl⟩ := List.mem_map.1 h
    rw [addressNameId, registerRow_of_mem row hrow]
    revert row
    decide
  · rw [addressNameId, registerRow_none h]
    have hne {a : Int} (ha : a ∈ registerNames.map (·.addr)) : ¬ addr = a := fun he => h (he ▸ ha)
    iterate 14 rw [if_neg (hne (by decide))]

end Sys2Proof.Machine
end

section
/-! SUPPORT. The frame of the commands that touch no register (R60, R62, R85, R130). -/

namespace Sys2Proof.Machine

/-- SET_DEBUG writes DBG, or what it already holds, and responds (R130). -/
theorem exec_setDebug (level : BitVec 2) (s : State) :
    ∃ d r, exec (.setDebug level) s = .next ((s.setDbg d).respond r) := by
  rw [exec, execSetDebug]
  cases debugLevelOf level with
  | none => exact ⟨s.dbg, _, rfl⟩
  | some d => exact ⟨d, _, rfl⟩

/-- VALIDATE_ADDRESS only responds (R60). -/
theorem exec_validateAddress (addr : Int) (s : State) : ∃ r, exec (.validateAddress addr) s = .next (s.respond r) := by
  by_cases h : Claims.InRange addr
  · exact ⟨_, exec_validateAddress_of_inRange h s⟩
  · exact ⟨_, exec_validateAddress_of_not_inRange h s⟩

/-- Settles O34: each of the four commands only responds, after SET_DEBUG's write; that no other one changes DBG is the
frame of all commands. -/
theorem commandsWithoutAccessChangeOnlyTheirResponse : Obligations.CommandsWithoutAccessChangeOnlyTheirResponse := by
  intro i s t h hi
  have hdbg : (∀ level, i ≠ .setDebug level) → t.dbg = s.dbg := fun hne =>
    by_contra fun hd => (exec_dbg_ne h hd).elim hne
  have hshape : ∃ d r, exec i s = .next ((s.setDbg d).respond r) := by
    rcases hi with ⟨addr, rfl⟩ | ⟨addr, rfl⟩ | ⟨a, b, rfl⟩ | ⟨level, rfl⟩
    · exact ⟨s.dbg, exec_validateAddress addr s⟩
    · exact ⟨s.dbg, _, rfl⟩
    · exact ⟨s.dbg, _, rfl⟩
    · exact exec_setDebug level s
  obtain ⟨d, r, e⟩ := hshape
  obtain rfl := Host.Outcome.next.inj (h.symm.trans e)
  exact ⟨r, rfl, hdbg⟩

end Sys2Proof.Machine
end

section
/-! SUPPORT. The decoded temperature as a number: eighths of a degree from the raw field (R80, R84, R87). -/

namespace Sys2Proof.Machine

open Claims

theorem rawNat_lt (x y : Byte) : rawNat x y < 2048 := by
  have hx := x.isLt
  have hy := y.isLt
  rw [rawNat]
  omega

theorem magnitudeNat_le {raw : Nat} (h : raw < 2048) : magnitudeNat raw ≤ 1024 := by
  rw [magnitudeNat]
  split <;> omega

/-! ### The complement at any width -/

/-- A mask of `m` ones keeps the remainder modulo `2 ^ m`. -/
theorem toNat_and_lowMask {k m : Nat} (h : m ≤ k) (x : BitVec k) :
    (x &&& BitVec.ofNat k (2 ^ m - 1)).toNat = x.toNat % 2 ^ m := by
  have hle : 2 ^ m ≤ 2 ^ k := Nat.pow_le_pow_right (by decide) h
  have hpos := Nat.two_pow_pos m
  rw [BitVec.toNat_and, BitVec.toNat_ofNat, Nat.mod_eq_of_lt (by omega), Nat.and_two_pow_sub_one_eq_mod]

/-- "The mask makes the result independent" of the width the complement is taken at (R82): `2 ^ k` is a multiple of
2048, so `2 ^ k - raw` leaves `2048 - raw`. -/
theorem toNat_wideComplement {k : Nat} (hk : 11 ≤ k) {raw : BitVec 11} (hneg : rawNegative raw = true) :
    ((~~~(raw.setWidth k) + 1) &&& BitVec.ofNat k 0x7FF).toNat = (magnitude raw).toNat := by
  have hraw := raw.isLt
  have hlow : 1024 ≤ raw.toNat := (rawNegative_iff raw).1 hneg
  obtain ⟨j, rfl⟩ := Nat.exists_eq_add_of_le hk
  have hpow : 2 ^ (11 + j) = 2 ^ 11 * 2 ^ j := pow_add 2 11 j
  have hpos := Nat.two_pow_pos j
  have hwide : (raw.setWidth (11 + j)).toNat = raw.toNat := by
    rw [BitVec.toNat_setWidth, hpow]
    exact Nat.mod_eq_of_lt (by omega)
  have hcomplement : ~~~(raw.setWidth (11 + j)) + 1 = -raw.setWidth (11 + j) := (BitVec.neg_eq_not_add _).symm
  refine (toNat_and_lowMask hk _).trans ?_
  rw [hcomplement, BitVec.toNat_neg, hwide, toNat_magnitude, magnitudeNat, if_pos hlow, hpow,
    Nat.mod_mul_right_mod]
  omega

/-- Settles O22: each step has its equation on natural numbers; the wide complement is the step at 11 bits. -/
theorem codecStepsAreTheIntegerOnes : Obligations.CodecStepsAreTheIntegerOnes := by
  intro x y
  refine ⟨toNat_rawField x y, ?_, ?_, ?_, ?_, magnitudeNat_le (rawNat_lt x y), fun _ hk => toNat_wideComplement hk⟩
  · rw [rawNegative_iff, toNat_rawField]
  · rw [toNat_magnitude, toNat_rawField]
  · rw [toNat_wholePart, toNat_magnitude, toNat_rawField]
  · rw [toNat_eighthsPart, toNat_magnitude, toNat_rawField]

/-! ### The temperature in eighths -/

theorem decodeTemperature_inEighths (x y : Byte) :
    (decodeTemperature x y).inEighths = eighthsOf (rawNat x y) := by
  simp only [Temperature.inEighths, eighthsOf, decodeTemperature_negative_iff, decodeTemperature_m]
  push_cast
  rfl

/-- Step 4 is the signed count of eighths, over 8 (R84). -/
theorem Temperature.value_eq_inEighths_div (t : Temperature) : t.value = (t.inEighths : Rat) / 8 := by
  rw [Temperature.value, Temperature.inEighths, Temperature.m]
  split <;> push_cast <;> ring

/-- The largest magnitude, 1024, is a negative raw field's only; the largest positive one, 1023, has lost its bit 2. -/
theorem eighthsOf_bounds {raw : Nat} (h : raw < 2048) : -1024 ≤ eighthsOf raw ∧ eighthsOf raw ≤ 1019 := by
  simp only [eighthsOf, magnitudeNat]
  split <;> omega

/-- Settles O23: the bounds are those of the integer steps; the extremes are evaluated. -/
theorem temperatureRangeIsMinus128ToPlus127And3Eighths :
    Obligations.TemperatureRangeIsMinus128ToPlus127And3Eighths := by
  refine ⟨fun x y => ?_, by decide, by decide, by decide⟩
  have hbounds := eighthsOf_bounds (rawNat_lt x y)
  rw [← decodeTemperature_inEighths] at hbounds
  exact ⟨decodeTemperature_inEighths x y, Temperature.value_eq_inEighths_div _, hbounds⟩

/-- Bit 2 of the magnitude, the one that step 3 discards (R83). -/
theorem magnitude_getLsbD_two (raw : BitVec 11) :
    (magnitude raw).getLsbD 2 = true ↔ magnitudeNat raw.toNat / 4 % 2 = 1 := by
  rw [← toNat_magnitude, BitVec.getLsbD, Nat.testBit_eq_decide_div_mod_eq, decide_eq_true_eq]

/-- The discarded bit is worth 4 eighths, with the sign of the temperature (R87 item 4). -/
theorem eighthsOf_eq (raw : Nat) (h : raw < 2048) :
    eighthsOf raw =
      twosComplement raw - (if 1024 ≤ raw then -4 else 4) * ((magnitudeNat raw / 4 % 2 : Nat) : Int) := by
  simp only [eighthsOf, twosComplement, magnitudeNat]
  split <;> omega

/-- Settles O25: the two values differ by the discarded bit. -/
theorem decodeFallsShortOfTwosComplementByHalfADegree :
    Obligations.DecodeFallsShortOfTwosComplementByHalfADegree := by
  intro x y
  have hbit := magnitude_getLsbD_two (rawField x y)
  have hsign : (rawField x y).getLsbD 10 = true ↔ 1024 ≤ rawNat x y := by
    rw [← toNat_rawField, ← rawNegative_iff, rawNegative]
  have hvalue := eighthsOf_eq (rawNat x y) (rawNat_lt x y)
  rw [toNat_rawField] at hbit
  simp only [hsign, decodeTemperature_inEighths, ← Bool.not_eq_true, hbit]
  split at hvalue <;> omega

/-- Opposite raw fields have the same magnitude and opposite signs (R87 item 6). -/
theorem eighthsOf_add_eq_zero {a b : Nat} (h : a + b = 2048) (hne : a ≠ 1024) :
    eighthsOf a + eighthsOf b = 0 := by
  have hmag : magnitudeNat a = magnitudeNat b := by
    simp only [magnitudeNat]
    split <;> split <;> omega
  simp only [eighthsOf, hmag]
  split <;> split <;> omega

/-- Settles O27: the temperatures are the opposite counts of eighths, over 8. -/
theorem decodeIsOddButForTheMostNegativeValue : Obligations.DecodeIsOddButForTheMostNegativeValue := by
  intro i f i' f' hsum hne
  have hzero := eighthsOf_add_eq_zero hsum hne
  rw [Temperature.value_eq_inEighths_div, Temperature.value_eq_inEighths_div, decodeTemperature_inEighths,
    decodeTemperature_inEighths, ← add_div, ← Int.cast_add, hzero, Int.cast_zero, zero_div]

end Sys2Proof.Machine
end

section
/-! SUPPORT. DECODE: its operands, its answer, and the number its pattern stands for (R49, R80, R81, R85). -/

namespace Sys2Proof.Machine

open Claims

/-! ### The operands -/

/-- The two parts of the raw field do not overlap (R81). -/
theorem rawField_eq_append (x y : Byte) : rawField x y = x ++ y.extractLsb' 5 3 := by
  apply BitVec.eq_of_toNat_eq
  have hy := y.isLt
  rw [toNat_rawField, BitVec.toNat_append, BitVec.extractLsb'_toNat, Nat.shiftRight_eq_div_pow,
    ← Nat.shiftLeft_add_eq_or_of_lt (Nat.mod_lt _ (by decide)), Nat.shiftLeft_eq, rawNat]
  omega

/-- `|` and `+` give the same raw field (R81). -/
theorem rawField_eq_add (x y : Byte) :
    rawField x y = (x.setWidth 11 <<< 3) + ((y &&& 0xE0) >>> 5).setWidth 11 := by
  apply BitVec.eq_of_toNat_eq
  have hx := x.isLt
  have hy := y.isLt
  rw [toNat_rawField, BitVec.toNat_add, BitVec.toNat_shiftLeft, BitVec.toNat_setWidth, BitVec.toNat_setWidth,
    toNat_and_shiftRight_five, Nat.shiftLeft_eq, rawNat]
  omega

theorem rawField_and_E0 (x y : Byte) : rawField x (y &&& 0xE0) = rawField x y := by
  rw [rawField, rawField, BitVec.and_assoc, BitVec.and_self]

theorem decodeTemperature_and_E0 (x y : Byte) : decodeTemperature x (y &&& 0xE0) = decodeTemperature x y := by
  rw [decodeTemperature, decodeTemperature, rawField_and_E0]

/-- DECODE answers OK with the decode port's pattern and does nothing else (R85). -/
theorem exec_decode (x y : Byte) (s : State) :
    exec (.decode x y) s = .next (withResponse ⟨.ok, 0, 0, .ok, 0, 0, false, decodePort x y⟩ s) := rfl

/-- Settles O24: the raw field is the concatenation of its two parts, and the mask of step 1 is idempotent. -/
theorem lowFractionBitsHaveNoEffect : Obligations.LowFractionBitsHaveNoEffect := by
  intro x y
  refine ⟨?_, ?_, rawField_eq_add x y, fun s => ?_⟩
  · rw [rawField_eq_append]
    exact BitVec.extractLsb'_append_eq_left
  · rw [rawField_eq_append]
    exact BitVec.extractLsb'_append_eq_right
  · rw [exec_decode, exec_decode, decodePort, decodePort, decodeTemperature_and_E0]

/-! ### The number on the port -/

/-- The fraction of the pattern is `m` without its highest bit, at the top of 23 bits; of 0 it is 0 (R49). -/
theorem Temperature.fraction_binary32 (t : Temperature) :
    (t.binary32.extractLsb' 0 23).toNat = (t.m - 2 ^ topBit t.m) * 2 ^ (23 - topBit t.m) := by
  have hf := fraction_lt t.m_lt
  rw [BitVec.extractLsb'_toNat, Nat.shiftRight_zero, t.toNat_binary32, Temperature.lowBits]
  split
  next h =>
    rw [h, Nat.zero_sub, Nat.zero_mul]
    omega
  next => omega

theorem Temperature.exponent_binary32 (t : Temperature) :
    (t.binary32.extractLsb' 23 8).toNat = if t.m = 0 then 0 else 124 + topBit t.m := by
  have hk := topBit_le t.m_lt
  have hf := fraction_lt t.m_lt
  rw [BitVec.extractLsb'_toNat, Nat.shiftRight_eq_div_pow, t.toNat_binary32, Temperature.lowBits]
  split <;> omega

/-- With the leading one back, the pattern's significand and exponent give `m * 2 ^ 147` (R49). -/
theorem significand_mul_exponent {m : Nat} (h : m < 2 ^ 11) (hne : m ≠ 0) :
    (2 ^ 23 + (m - 2 ^ topBit m) * 2 ^ (23 - topBit m)) * 2 ^ (124 + topBit m) = m * 2 ^ 147 := by
  have hk := topBit_le h
  have htop : 2 ^ topBit m ≤ m := Nat.log2_self_le hne
  have hsplit : 2 ^ 23 = 2 ^ topBit m * 2 ^ (23 - topBit m) := by rw [← pow_add]; congr 1; omega
  rw [hsplit, ← Nat.add_mul, Nat.add_sub_cancel' htop, Nat.mul_assoc, ← pow_add]
  congr 2
  omega

/-- The pattern stands for the temperature itself: nothing is rounded (R49). -/
theorem Temperature.binary32Value_binary32 (t : Temperature) : binary32Value t.binary32 = t.value := by
  rw [t.value_eq_inEighths_div, Temperature.inEighths, binary32Value]
  simp only [t.binary32_getLsbD_31, t.exponent_binary32, t.fraction_binary32]
  by_cases h : t.m = 0
  · simp [h, topBit]
  · have hk : 124 + topBit t.m ≠ 0 := by omega
    rw [if_neg h, if_neg hk, significand_mul_exponent t.m_lt h]
    split <;> push_cast <;> ring

/-- Settles O21: the answer is the decode port's pattern, which stands for the count of eighths over 8. -/
theorem decodeAnswersTheTemperature : Obligations.DecodeAnswersTheTemperature := by
  refine ⟨fun w hw => ?_, fun x y => ⟨decodePort x y, ?_, exec_decode x y⟩⟩
  · exact decode_of_opcode (i := .decode 0 0) hw
  · rw [decodePort, Temperature.binary32Value_binary32, Temperature.value_eq_inEighths_div,
      decodeTemperature_inEighths]

end Sys2Proof.Machine
end

section
/-! SUPPORT. The facade: every command is an access at fixed addresses in range, so what an answered access does says
what the command does (R100 to R117). -/

namespace Sys2Proof.Machine

open Claims

/-! ### Outcomes in the words of the statements -/

/-- The outcome the statements read off a reply is the one steps 3 to 5 of READ_REGISTER end with (R64). -/
theorem readOutcome_eq (r : AdapterReply) :
    readOutcome r = ((readCheck r).kind, (readCheck r).code, (readCheck r).data) := by
  rcases readCheck_cases r with ⟨h, e⟩ | ⟨h, hl, e⟩ | ⟨h, b, hb, e⟩ <;> rw [e, readOutcome]
  · rw [if_pos h]; rfl
  · rw [if_neg (not_not.2 h)]
    split
    · next hb => exact absurd (by rw [hb, List.length_singleton]) hl
    · rfl
  · rw [if_neg (not_not.2 h), hb]; rfl

theorem failedBit_eq_decide (kind kind2 : Kind) : failedBit kind kind2 = decide (kind ≠ .ok ∨ kind2 ≠ .ok) :=
  Bool.eq_iff_iff.2 ((failedBit_iff kind kind2).trans decide_eq_true_iff.symm)

/-! ### Temperature reads -/

/-- Both calls answered, a temperature read makes both and responds with both outcomes and the decoded data (R100). -/
theorem runReadTemp_of_replies {addrInt addrFract : Int} (hi : InRange addrInt) (hf : InRange addrFract) {s : State}
    {r1 r2 : AdapterReply} (h1 : s.answerTo (readFrameOf addrInt) = .reply r1)
    (h2 : (afterAccess .read addrInt (readFrameOf addrInt) s).answerTo (readFrameOf addrFract) = .reply r2) :
    runReadTemp addrInt addrFract s =
      withResponse
        (temperatureResponse (readCheck r1) (readCheck r2) (decodePort (readCheck r1).data (readCheck r2).data))
        (afterAccess .read addrFract (readFrameOf addrFract) (afterAccess .read addrInt (readFrameOf addrInt) s)) := by
  have first := readAccess_reply ((validAddress_iff addrInt).2 hi) h1
  have second : readAccess addrFract (s.afterRead addrInt) = _ :=
    readAccess_reply ((validAddress_iff addrFract).2 hf) h2
  simp only [runReadTemp, first, second]
  rfl

/-- The rows of R101 to R103: an opcode without operands, and the template at two addresses in range. -/
theorem temperatureReads_row {i : Instr} {op : BitVec 8} {addrInt addrFract : Int}
    (h : (i, op, addrInt, addrFract) ∈ temperatureReads) :
    i.opcode = op ∧ (∀ w, i.withOperandsOf w = i) ∧ InRange addrInt ∧ InRange addrFract ∧
      ∀ s, exec i s = .next (runReadTemp addrInt addrFract s) := by
  simp only [temperatureReads, List.mem_cons, List.not_mem_nil, or_false, Prod.mk.injEq] at h
  rcases h with ⟨rfl, rfl, rfl, rfl⟩ | ⟨rfl, rfl, rfl, rfl⟩ | ⟨rfl, rfl, rfl, rfl⟩ <;>
    exact ⟨rfl, fun _ => rfl, by decide, by decide, fun _ => rfl⟩

/-- Settles O28: each command is the template at its row's addresses, and two answered reads give its whole next state. -/
theorem temperatureReadsMakeBothReadsAndDecode : Obligations.TemperatureReadsMakeBothReadsAndDecode := by
  intro i op addrInt addrFract hrow
  obtain ⟨hop, hoperands, hi, hf, hexec⟩ := temperatureReads_row hrow
  refine ⟨fun w hw => (decode_eq_ok_iff w i).2 ⟨hw.trans hop.symm, hoperands w⟩, fun s r1 r2 h1 h2 => ?_⟩
  rw [hexec, runReadTemp_of_replies hi hf h1 h2, temperatureResponse, failedBit_eq_decide]
  simp only [readOutcome_eq]

/-! ### Passthrough reads -/

/-- The rows of R105 to R112: an opcode without operands, and READ_REGISTER at an address in range. -/
theorem passthroughReads_row {i : Instr} {op : BitVec 8} {addr : Int} (h : (i, op, addr) ∈ passthroughReads) :
    i.opcode = op ∧ (∀ w, i.withOperandsOf w = i) ∧ InRange addr ∧ ∀ s, exec i s = exec (.readRegister addr) s := by
  simp only [passthroughReads, List.mem_cons, List.not_mem_nil, or_false, Prod.mk.injEq] at h
  rcases h with ⟨rfl, rfl, rfl⟩ | ⟨rfl, rfl, rfl⟩ | ⟨rfl, rfl, rfl⟩ | ⟨rfl, rfl, rfl⟩ | ⟨rfl, rfl, rfl⟩ |
    ⟨rfl, rfl, rfl⟩ | ⟨rfl, rfl, rfl⟩ | ⟨rfl, rfl, rfl⟩ <;>
    exact ⟨rfl, fun _ => rfl, by decide, fun _ => rfl⟩

/-- Settles O29: each command is READ_REGISTER at its row's address, whose answered outcome is known. -/
theorem passthroughReadsAreReadRegister : Obligations.PassthroughReadsAreReadRegister := by
  intro i op addr hrow
  obtain ⟨hop, hoperands, hrange, hexec⟩ := passthroughReads_row hrow
  refine ⟨fun w hw => (decode_eq_ok_iff w i).2 ⟨hw.trans hop.symm, hoperands w⟩, hexec, fun s r ha => ?_⟩
  rw [hexec, exec, execReadRegister, runRead_of_reply hrange ha rfl, failedBit_eq_decide]
  simp [readOutcome_eq]

/-! ### Passthrough writes -/

/-- The rows of R114 to R117: an opcode with the value operand, and WRITE_REGISTER at an address in range. -/
theorem passthroughWrites_row {c : Int → Instr} {op : BitVec 8} {addr : Int} (h : (c, op, addr) ∈ passthroughWrites) :
    (∀ value, (c value).opcode = op) ∧ (∀ value w, (c value).withOperandsOf w = c (valueOperand w)) ∧ InRange addr ∧
      ∀ value s, exec (c value) s = exec (.writeRegister addr value) s := by
  simp only [passthroughWrites, List.mem_cons, List.not_mem_nil, or_false, Prod.mk.injEq] at h
  rcases h with ⟨rfl, rfl, rfl⟩ | ⟨rfl, rfl, rfl⟩ | ⟨rfl, rfl, rfl⟩ | ⟨rfl, rfl, rfl⟩ <;>
    exact ⟨fun _ => rfl, fun _ _ => rfl, by decide, fun _ _ => rfl⟩

/-- Settles O30: each command is WRITE_REGISTER at its row's address, and the reply's status decides the response. -/
theorem passthroughWritesAreWriteRegister : Obligations.PassthroughWritesAreWriteRegister := by
  intro c op addr hrow
  obtain ⟨hop, hoperands, hrange, hexec⟩ := passthroughWrites_row hrow
  refine ⟨fun w hw => (decode_eq_ok_iff w _).2 ⟨hw.trans (hop _).symm, hoperands _ w⟩, hexec, fun value s r ha => ?_⟩
  rw [hexec, exec, execWriteRegister, runWrite_of_reply hrange ha rfl]
  rcases writeCheck_cases r with ⟨hs, e⟩ | ⟨hs, e⟩
  · rw [e, if_neg hs]; rfl
  · rw [e, if_pos hs]; rfl

end Sys2Proof.Machine
end

section
/-! SUPPORT. The debug level shows in nothing but the messages (R13, R132): every operation, so every command and every
step, takes two states that differ only in DBG and messages to two that differ only so. -/

namespace Sys2Proof.Machine

/-! ### The operations -/

namespace SameButDebug

variable {s t : State}

/-- The second state is the first with another level and other messages. -/
theorem exists_eq (h : SameButDebug s t) : ∃ d messages, t = { s with dbg := d, diagnostics := messages } :=
  ⟨t.dbg, t.diagnostics, Eq.symm h⟩

theorem rst (h : SameButDebug s t) : t.rst = s.rst := by
  obtain ⟨d, messages, rfl⟩ := h.exists_eq; rfl

theorem inFlight (h : SameButDebug s t) : t.inFlight = s.inFlight := by
  obtain ⟨d, messages, rfl⟩ := h.exists_eq; rfl

theorem requester (h : SameButDebug s t) : t.requester = s.requester := by
  obtain ⟨d, messages, rfl⟩ := h.exists_eq; rfl

/-- What the adapter answers does not depend on the debug level. -/
theorem answerTo (h : SameButDebug s t) (q : AdapterRequest) : t.answerTo q = s.answerTo q := by
  obtain ⟨d, messages, rfl⟩ := h.exists_eq; rfl

theorem noteAccess (h : SameButDebug s t) (operation : RegisterOperation) (addr : Int) :
    SameButDebug (s.noteAccess operation addr) (t.noteAccess operation addr) := by
  obtain ⟨d, messages, rfl⟩ := h.exists_eq; rfl

theorem logCall (h : SameButDebug s t) (q : AdapterRequest) : SameButDebug (s.logCall q) (t.logCall q) := by
  obtain ⟨d, messages, rfl⟩ := h.exists_eq; rfl

theorem respond (h : SameButDebug s t) (r : Response) : SameButDebug (s.respond r) (t.respond r) := by
  obtain ⟨d, messages, rfl⟩ := h.exists_eq; rfl

theorem wait (h : SameButDebug s t) (q : AdapterRequest) : SameButDebug (s.wait q) (t.wait q) := by
  obtain ⟨d, messages, rfl⟩ := h.exists_eq; rfl

theorem setDbg (h : SameButDebug s t) (d : DebugLevel) : SameButDebug (s.setDbg d) (t.setDbg d) := by
  obtain ⟨d', messages, rfl⟩ := h.exists_eq; rfl

theorem accept (h : SameButDebug s t) : SameButDebug s.accept t.accept := by
  obtain ⟨d, messages, rfl⟩ := h.exists_eq; rfl

theorem applyReset (h : SameButDebug s t) : SameButDebug s.applyReset t.applyReset := by
  obtain ⟨d, messages, rfl⟩ := h.exists_eq; rfl

theorem call (h : SameButDebug s t) (operation : RegisterOperation) (addr : Int) (q : AdapterRequest) :
    SameButDebug ((s.noteAccess operation addr).logCall q) ((t.noteAccess operation addr).logCall q) :=
  (h.noteAccess operation addr).logCall q

/-! ### Register accesses -/

/-- A register read comes equally far with equal results, whatever the debug level. -/
theorem readAccess (h : SameButDebug s t) (addr : Int) :
    ∃ far u v, readAccess addr s = (far, u) ∧ readAccess addr t = (far, v) ∧ SameButDebug u v := by
  rcases readAccess_cases addr s with ⟨hv, e⟩ | ⟨hv, r, ha, e⟩ | ⟨hv, ha, e⟩
  · exact ⟨_, _, _, e, readAccess_refused hv t, h.noteAccess ..⟩
  · exact ⟨_, _, _, e, readAccess_reply hv ((h.answerTo _).trans ha), h.call ..⟩
  · exact ⟨_, _, _, e, readAccess_never hv ((h.answerTo _).trans ha), h.call ..⟩

/-- A register write comes equally far with equal results, whatever the debug level. -/
theorem writeAccess (h : SameButDebug s t) (addr value : Int) :
    ∃ far u v, writeAccess addr value s = (far, u) ∧ writeAccess addr value t = (far, v) ∧ SameButDebug u v := by
  cases hv : validAddress addr with
  | false => exact ⟨_, _, _, writeAccess_refused hv value s, writeAccess_refused hv value t, h.noteAccess ..⟩
  | true =>
    cases ha : s.answerTo (writeFrame addr value) with
    | reply r =>
      exact ⟨_, _, _, writeAccess_reply hv ha, writeAccess_reply hv ((h.answerTo _).trans ha), h.call ..⟩
    | never =>
      exact ⟨_, _, _, writeAccess_never hv ha, writeAccess_never hv ((h.answerTo _).trans ha), h.call ..⟩

theorem runRead (h : SameButDebug s t) (addr : Int) : SameButDebug (runRead addr s) (runRead addr t) := by
  obtain ⟨far, u, v, es, et, huv⟩ := h.readAccess addr
  simp only [Machine.runRead, es, et]
  cases far with
  | done r =>
    simp only [State.finishRead_eq]
    exact huv.respond _
  | waiting q => exact huv.wait q

theorem runWrite (h : SameButDebug s t) (addr value : Int) :
    SameButDebug (runWrite addr value s) (runWrite addr value t) := by
  obtain ⟨far, u, v, es, et, huv⟩ := h.writeAccess addr value
  simp only [Machine.runWrite, es, et]
  cases far with
  | done r =>
    simp only [State.finishWrite_eq]
    exact huv.respond _
  | waiting q => exact huv.wait q

theorem runReadTemp (h : SameButDebug s t) (addrInt addrFract : Int) :
    SameButDebug (runReadTemp addrInt addrFract s) (runReadTemp addrInt addrFract t) := by
  obtain ⟨far, u, v, es, et, huv⟩ := h.readAccess addrInt
  simp only [Machine.runReadTemp, es, et]
  cases far with
  | waiting q => exact huv.wait q
  | done r1 =>
    obtain ⟨far', u', v', eu, ev, huv'⟩ := huv.readAccess addrFract
    simp only [eu, ev]
    cases far' with
    | waiting q => exact huv'.wait q
    | done r2 => exact huv'.respond _

end SameButDebug

/-! ### Commands and steps -/

/-- A property of state functions that the five shapes of a command have is had by every command: its shape does not
depend on the state (compare `exec_shape`, for one state). -/
theorem exec_function_of_shapes {P : (State → State) → Prop} (respond : ∀ r, P (State.respond r))
    (setDbg : ∀ d r, P fun s => (s.setDbg d).respond r) (read : ∀ addr, P (runRead addr))
    (write : ∀ addr value, P (runWrite addr value))
    (readTemp : ∀ addrInt addrFract, P (runReadTemp addrInt addrFract)) (i : Instr) :
    ∃ f, P f ∧ ∀ s, exec i s = .next (f s) := by
  cases i
  case validateAddress addr =>
    by_cases h : Claims.InRange addr
    · exact ⟨_, respond _, exec_validateAddress_of_inRange h⟩
    · exact ⟨_, respond _, exec_validateAddress_of_not_inRange h⟩
  case addressName | decode => exact ⟨_, respond _, fun _ => rfl⟩
  case setDebug level =>
    cases h : debugLevelOf level with
    | none =>
      exact ⟨_, respond (plainResponse .illegalCommand 0 0 0), fun s => by
        simp [exec, execSetDebug, h, State.illegalCommand_eq]⟩
    | some d =>
      exact ⟨_, setDbg d (plainResponse .ok 0 0 0), fun s => by simp [exec, execSetDebug, h, State.succeed_eq]⟩
  case readRegister | readStatus | readConfig0 | readConfig1 | readConvRate0 | readConvRate1 | readProductId |
      readManufacturerId | readRevision =>
    exact ⟨_, read _, fun _ => rfl⟩
  case writeRegister | writeConfig0 | writeConfig1 | writeConvRate0 | writeConvRate1 =>
    exact ⟨_, write _ _, fun _ => rfl⟩
  case readTempInt | readTempExt1 | readTempExt2 => exact ⟨_, readTemp _ _, fun _ => rfl⟩

/-- The function keeps two states the same but for DBG and messages. -/
def KeepsSameButDebug (f : State → State) : Prop :=
  ∀ ⦃s t : State⦄, SameButDebug s t → SameButDebug (f s) (f t)

theorem exec_keepsSameButDebug (i : Instr) : ∃ f, KeepsSameButDebug f ∧ ∀ s, exec i s = .next (f s) :=
  exec_function_of_shapes (fun r _ _ h => h.respond r) (fun d r _ _ h => (h.setDbg d).respond r)
    (fun addr _ _ h => h.runRead addr) (fun addr value _ _ h => h.runWrite addr value)
    (fun addrInt addrFract _ _ h => h.runReadTemp addrInt addrFract) i

/-- A block whose `rst` is high resets, whatever else it holds (R160). -/
theorem step_of_rst {s : State} (hr : s.rst = true) : step s = .next s.applyReset := by
  simp [step, hr]

/-- A busy block, or one without a command, does nothing (R146, R164, R168). -/
theorem step_of_busy_or_no_command {s : State} (hr : s.rst = false) (h : s.inFlight ≠ none ∨ s.requester = []) :
    step s = .next s := by
  cases hf : s.inFlight with
  | some q => simp [step, hr, hf]
  | none => simp [step, hr, hf, h.resolve_left (not_not.2 hf)]

/-- Two states that differ only in DBG and messages take the same branch of the step. -/
theorem SameButDebug.step {s t : State} (h : SameButDebug s t) :
    ∃ s' t', step s = .next s' ∧ step t = .next t' ∧ SameButDebug s' t' := by
  rcases step_cases s with ⟨hr, e⟩ | ⟨hr, hidle, e⟩ | ⟨hr, hf, w, rest, hq, ⟨i, hw, e⟩ | ⟨err, hw, e⟩⟩
  · exact ⟨_, _, e, step_of_rst (h.rst.trans hr), h.applyReset⟩
  · rw [← h.inFlight, ← h.requester] at hidle
    exact ⟨_, _, e, step_of_busy_or_no_command (h.rst.trans hr) hidle, h⟩
  · obtain ⟨f, hkeeps, hexec⟩ := exec_keepsSameButDebug i
    have e' : Machine.step t = exec i t.accept :=
      step_of_decode_ok (h.rst.trans hr) (h.inFlight.trans hf) (h.requester.trans hq) hw
    exact ⟨_, _, e.trans (hexec _), e'.trans (hexec _), hkeeps h.accept⟩
  · have e' : Machine.step t = .next t.accept.illegalCommand :=
      step_of_decode_error (h.rst.trans hr) (h.inFlight.trans hf) (h.requester.trans hq) hw
    exact ⟨_, _, e, e', h.accept.respond _⟩

/-- Settles O38: both machines take the same branch of the step, and every operation of it keeps them the same but for
DBG and messages. -/
theorem debugLevelShowsInNothingButDiagnostics : Obligations.DebugLevelShowsInNothingButDiagnostics := by
  intro s t s' t' h hs ht
  obtain ⟨u, v, hu, hv, huv⟩ := h.step
  obtain rfl := Host.Outcome.next.inj (hs.symm.trans hu)
  obtain rfl := Host.Outcome.next.inj (ht.symm.trans hv)
  exact huv

end Sys2Proof.Machine
end

section
/-! SUPPORT. At level none nothing is emitted (R132, N6), and what SET_DEBUG does at each level (R130). -/

namespace Sys2Proof.Machine

/-- From `s` to `t` DBG is kept, and nothing was emitted if it is none. -/
structure SilentAtLevelNone (s t : State) : Prop where
  dbg : t.dbg = s.dbg
  diagnostics : s.dbg = .none → t.diagnostics = s.diagnostics

/-- The one operation that emits is `noteAccess`, and its emission at level none is empty. -/
theorem keptByOperations_silentAtLevelNone : KeptByOperations SilentAtLevelNone where
  trans hst htu :=
    ⟨htu.dbg.trans hst.dbg, fun h => (htu.diagnostics (hst.dbg.trans h)).trans (hst.diagnostics h)⟩
  noteAccess operation addr s := ⟨rfl, fun h => by
    rw [State.noteAccess_diagnostics, State.emission_none h, List.append_nil]⟩
  logCall _ _ := ⟨rfl, fun _ => rfl⟩
  respond _ _ := ⟨rfl, fun _ => rfl⟩
  wait _ _ := ⟨rfl, fun _ => rfl⟩

theorem exec_diagnostics_of_dbg_none {i : Instr} {s t : State} (hd : s.dbg = .none) (h : exec i s = .next t) :
    t.diagnostics = s.diagnostics := by
  rcases keptByOperations_silentAtLevelNone.exec h with hsilent | ⟨level, d, -, rfl⟩
  · exact hsilent.diagnostics hd
  · rfl

/-- Settles O39: a step's other branches emit at no level, and a command run at level none emits nothing. -/
theorem nothingIsEmittedAtLevelNone : Obligations.NothingIsEmittedAtLevelNone := by
  intro s t hd h
  rcases step_cases s with ⟨-, e⟩ | ⟨-, -, e⟩ | ⟨-, -, w, rest, -, ⟨i, -, e⟩ | ⟨err, -, e⟩⟩
  · obtain rfl := Host.Outcome.next.inj (h.symm.trans e)
    rfl
  · obtain rfl := Host.Outcome.next.inj (h.symm.trans e)
    rfl
  · exact exec_diagnostics_of_dbg_none (s := s.accept) hd (e.symm.trans h)
  · obtain rfl := Host.Outcome.next.inj (h.symm.trans e)
    rfl

/-- SET_DEBUG with a level that has a name sets DBG to it and answers OK, with every other field 0 (R130). -/
theorem exec_setDebug_of_level {level : BitVec 2} {d : DebugLevel} (h : debugLevelOf level = some d) (s : State) :
    exec (.setDebug level) s = .next (Claims.withResponse (Claims.single .ok 0 0 false) { s with dbg := d }) := by
  rw [exec, execSetDebug, h]
  rfl

/-- Settles O31: 0, 1 and 2 are the levels that have a name. -/
theorem setDebugWritesTheLevel : Obligations.SetDebugWritesTheLevel := fun s =>
  ⟨exec_setDebug_of_level rfl s, exec_setDebug_of_level rfl s, exec_setDebug_of_level rfl s⟩

end Sys2Proof.Machine
end

section
/-! SUPPORT. Failures are local (R144, R146, R147): an access leaves the same state whatever the reply to it, a failed
command keeps the block ready, and every step answers a next state. -/

namespace Sys2Proof.Machine

open Sys2Proof.Claims

/-- The reply to an access is used up and not kept: only the response can tell it. -/
theorem withResponse_afterAccess_of_answers (operation : RegisterOperation) (addr : Int) (q : AdapterRequest) (s : State)
    (a b : AdapterAnswer) (rest : List AdapterAnswer) (p : Response) (rs : List Response) :
    { withResponse p (afterAccess operation addr q { s with answers := a :: rest }) with responses := rs } =
      { afterAccess operation addr q { s with answers := b :: rest } with responses := rs } := rfl

/-- Settles O41: an answered access is one response after its one call, which uses the reply up. -/
theorem aFailureLeavesTheStateOfASuccess : Obligations.AFailureLeavesTheStateOfASuccess := by
  intro addr value s t u r r' rest h
  constructor <;> rintro ⟨⟩ ⟨⟩
  · rw [runRead_of_reply h (State.answerTo_listed rfl _) rfl, runRead_of_reply h (State.answerTo_listed rfl _) rfl]
    exact withResponse_afterAccess_of_answers ..
  · rw [runWrite_of_reply h (State.answerTo_listed rfl _) rfl, runWrite_of_reply h (State.answerTo_listed rfl _) rfl]
    exact withResponse_afterAccess_of_answers ..

/-- A command whose one response is a failure keeps DBG: the SET_DEBUG that writes it answers OK (R13, R130, R144). -/
theorem exec_dbg_of_failed {i : Instr} {s t : State} {r : Response} (h : exec i s = .next t)
    (hresponse : t.responses = s.responses ++ [r]) (hfailed : r.failed = true) : t.dbg = s.dbg := by
  rcases keptByOperations_sameDbg.exec h with hsame | ⟨level, d, -, rfl⟩
  · exact hsame
  · obtain rfl : plainResponse .ok 0 0 0 = r := by simpa using hresponse
    simp [plainResponse, failedBit] at hfailed

/-- A command that responded on an idle block leaves it idle: one that waits has not responded (R164). -/
theorem exec_idle_of_response {i : Instr} {s t : State} {r : Response} (hidle : s.inFlight = none)
    (h : exec i s = .next t) (hresponse : t.responses = s.responses ++ [r]) : t.inFlight = none := by
  rcases aCommandProducesOneResponseOrWaits i s t hidle h with ⟨ht, -⟩ | ⟨-, hnone⟩
  · exact ht
  · simp [hnone] at hresponse

/-- Settles O42: a failed response is a response, so the block is idle and takes its next word; it is no success, so
DBG is kept. -/
theorem aFailedCommandLeavesTheBlockAsItWas : Obligations.AFailedCommandLeavesTheBlockAsItWas := by
  intro i s t r hidle h hresponse hfailed
  have ht : t.inFlight = none := exec_idle_of_response hidle h hresponse
  exact ⟨exec_dbg_of_failed h hresponse hfailed, (exec_extends h).handle, ht,
    fun w rest j hr hq hd => stepRunsTheDecodedCommand t w rest j hr ht hq hd⟩

/-- Settles O7: no word on the command port is no command, in an idle block as in a waiting one. -/
theorem withoutACommandTheBlockDoesNothing : Obligations.WithoutACommandTheBlockDoesNothing :=
  fun _ hr hq => step_of_busy_or_no_command hr (.inr hq)

/-- Settles O11: in each branch of the step there is a next state, with or without earlier outputs. -/
theorem everyStepAnswersANextState : Obligations.EveryStepAnswersANextState := fun s =>
  (step_prepend s).imp fun _ h => h.1

end Sys2Proof.Machine
end

section
/-! SUPPORT. Reset, and the wait for an adapter that never answers (R160, R161, R168). -/

namespace Sys2Proof.Machine

open Sys2Proof.Claims

/-- Settles O9: reset comes before everything else a step can do. -/
theorem resetAbandonsTheCommandInProgress : Obligations.ResetAbandonsTheCommandInProgress := fun _ hr => step_of_rst hr

/-- Settles O8: a busy block does nothing with `rst` low, so its wait cannot have ended in such a step. -/
theorem aWaitingBlockStaysBusyUntilReset : Obligations.AWaitingBlockStaysBusyUntilReset := by
  have hstays (s : State) (q : AdapterRequest) (hf : s.inFlight = some q) (hr : s.rst = false) : step s = .next s :=
    step_of_busy_or_no_command hr (.inl (by simp [hf]))
  refine ⟨hstays, fun s t q hf h hidle => ?_⟩
  by_contra hr
  obtain rfl := Host.Outcome.next.inj (h.symm.trans (hstays s q hf (Bool.eq_false_of_not_eq_true hr)))
  simp [hf] at hidle

/-- An unanswered read makes its one call and waits for it (R168). -/
theorem runRead_of_never {addr : Int} {s : State} (h : InRange addr) (ha : s.answerTo (readFrameOf addr) = .never) :
    runRead addr s = (afterAccess .read addr (readFrameOf addr) s).wait (readFrameOf addr) := by
  rw [runRead, readAccess_never ((validAddress_iff addr).2 h) ha]
  rfl

/-- An unanswered write makes its one call and waits for it (R168). -/
theorem runWrite_of_never {addr value : Int} {s : State} (h : InRange addr)
    (ha : s.answerTo (writeFrameOf addr value) = .never) :
    runWrite addr value s = (afterAccess .write addr (writeFrameOf addr value) s).wait (writeFrameOf addr value) := by
  rw [runWrite, writeAccess_never ((validAddress_iff addr).2 h) ha]
  rfl

/-- A temperature read whose first call is unanswered waits for it and makes no second one (R100, R168). -/
theorem runReadTemp_of_never {addrInt : Int} {s : State} (hi : InRange addrInt)
    (ha : s.answerTo (readFrameOf addrInt) = .never) (addrFract : Int) :
    runReadTemp addrInt addrFract s =
      (afterAccess .read addrInt (readFrameOf addrInt) s).wait (readFrameOf addrInt) := by
  rw [runReadTemp, readAccess_never ((validAddress_iff addrInt).2 hi) ha]
  rfl

/-- A temperature read whose second call is unanswered waits for it, whatever the first reply (R100, R168). -/
theorem runReadTemp_of_reply_of_never {addrInt addrFract : Int} {s : State} {r1 : AdapterReply} (hi : InRange addrInt)
    (hf : InRange addrFract) (h1 : s.answerTo (readFrameOf addrInt) = .reply r1)
    (h2 : (afterAccess .read addrInt (readFrameOf addrInt) s).answerTo (readFrameOf addrFract) = .never) :
    runReadTemp addrInt addrFract s =
      (afterAccess .read addrFract (readFrameOf addrFract) (afterAccess .read addrInt (readFrameOf addrInt) s)).wait
        (readFrameOf addrFract) := by
  have first := readAccess_reply ((validAddress_iff addrInt).2 hi) h1
  have second : readAccess addrFract (s.afterRead addrInt) = _ :=
    readAccess_never ((validAddress_iff addrFract).2 hf) h2
  simp only [runReadTemp, first, second]
  rfl

/-- Settles O32: an access whose answer never comes ends in `wait`, which keeps the responses. -/
theorem anUnansweredCallLeavesTheCommandWaiting : Obligations.AnUnansweredCallLeavesTheCommandWaiting := by
  refine ⟨fun addr s h ha => ?_, fun addr value s h ha => ?_, fun i op addrInt addrFract hrow s => ?_⟩
  · exact congrArg Host.Outcome.next (runRead_of_never h ha)
  · exact congrArg Host.Outcome.next (runWrite_of_never h ha)
  · obtain ⟨-, -, hi, hf, hexec⟩ := temperatureReads_row hrow
    rw [hexec]
    exact ⟨fun ha => congrArg Host.Outcome.next (runReadTemp_of_never hi ha addrFract),
      fun r1 h1 h2 => congrArg Host.Outcome.next (runReadTemp_of_reply_of_never hi hf h1 h2)⟩

end Sys2Proof.Machine
end

section
/-! SUPPORT. The calls a command makes, in order (R26, R27, R31, R171): all its frames when it ends, those up to the
outstanding one when it waits. -/

namespace Sys2Proof.Machine

/-- From `s` to `t` the calls of `frames` were made in order: all of them if no call is outstanding in `t`, else those
up to the outstanding one. -/
def CallsMade (frames : List AdapterRequest) (s t : State) : Prop :=
  (t.inFlight = none → t.trace = s.trace ++ frames.map s.callTo) ∧
  (∀ q, t.inFlight = some q → ∃ before after, frames = before ++ q :: after ∧
    t.trace = s.trace ++ (before ++ [q]).map s.callTo)

theorem CallsMade.of_respond {frames : List AdapterRequest} {s u : State} (r : Response) (hidle : u.inFlight = none)
    (hu : u.trace = s.trace ++ frames.map s.callTo) : CallsMade frames s (u.respond r) :=
  ⟨fun _ => hu, fun q hq => by simp [hidle] at hq⟩

theorem CallsMade.of_wait {q : AdapterRequest} {s u : State} (before after : List AdapterRequest)
    (hu : u.trace = s.trace ++ (before ++ [q]).map s.callTo) : CallsMade (before ++ q :: after) s (u.wait q) :=
  ⟨fun h => absurd h (Option.some_ne_none q), fun p hp => by
    obtain rfl := Option.some.inj hp
    exact ⟨before, after, rfl, hu⟩⟩

theorem callsMade_respond (r : Response) {s : State} (hidle : s.inFlight = none) : CallsMade [] s (s.respond r) :=
  .of_respond r hidle (List.append_nil _).symm

theorem runRead_callsMade (addr : Int) {s : State} (hidle : s.inFlight = none) :
    CallsMade (readFrames addr) s (runRead addr s) := by
  rcases runRead_cases addr s with ⟨hv, e⟩ | ⟨hv, r, -, e⟩ | ⟨hv, -, e⟩ <;> rw [e, readFrames]
  · rw [if_neg ((validAddress_false_iff addr).1 hv)]
    exact .of_respond _ hidle (List.append_nil _).symm
  · rw [if_pos ((validAddress_iff addr).1 hv)]
    exact .of_respond _ hidle rfl
  · rw [if_pos ((validAddress_iff addr).1 hv)]
    exact .of_wait [] [] rfl

theorem runWrite_callsMade (addr value : Int) {s : State} (hidle : s.inFlight = none) :
    CallsMade (writeFrames addr value) s (runWrite addr value s) := by
  rcases runWrite_cases addr value s with ⟨hv, e⟩ | ⟨hv, r, -, e⟩ | ⟨hv, -, e⟩ <;> rw [e, writeFrames]
  · rw [if_neg ((validAddress_false_iff addr).1 hv)]
    exact .of_respond _ hidle (List.append_nil _).symm
  · rw [if_pos ((validAddress_iff addr).1 hv)]
    exact .of_respond _ hidle rfl
  · rw [if_pos ((validAddress_iff addr).1 hv)]
    exact .of_wait [] [] rfl

/-- A temperature read makes its second call only once the first is answered (R100). -/
theorem runReadTemp_callsMade {addrInt addrFract : Int} (hi : validAddress addrInt = true)
    (hf : validAddress addrFract = true) {s : State} (hidle : s.inFlight = none) :
    CallsMade [readFrame addrInt, readFrame addrFract] s (runReadTemp addrInt addrFract s) := by
  have hboth : ((s.afterRead addrInt).afterRead addrFract).trace =
      s.trace ++ [readFrame addrInt, readFrame addrFract].map s.callTo := by simp
  rcases runReadTemp_cases hi hf s with ⟨-, e⟩ | ⟨r1, -, -, e⟩ | ⟨r1, r2, -, -, e⟩ <;> rw [e]
  · exact .of_wait [] [readFrame addrFract] rfl
  · exact .of_wait [readFrame addrInt] [] hboth
  · exact .of_respond _ hidle hboth

/-- Every command of an idle block makes the calls of its frames. -/
theorem exec_callsMade (i : Instr) {s : State} (hidle : s.inFlight = none) :
    ∃ t, exec i s = .next t ∧ CallsMade (commandFrames i) s t := by
  cases i
  case validateAddress addr =>
    obtain ⟨r, e⟩ := exec_validateAddress addr s
    exact ⟨_, e, callsMade_respond r hidle⟩
  case setDebug level =>
    obtain ⟨d, r, e⟩ := exec_setDebug level s
    exact ⟨_, e, .of_respond r hidle (List.append_nil _).symm⟩
  case addressName | decode => exact ⟨_, rfl, callsMade_respond _ hidle⟩
  case readRegister | readStatus | readConfig0 | readConfig1 | readConvRate0 | readConvRate1 | readProductId |
      readManufacturerId | readRevision =>
    exact ⟨_, rfl, runRead_callsMade _ hidle⟩
  case writeRegister | writeConfig0 | writeConfig1 | writeConvRate0 | writeConvRate1 =>
    exact ⟨_, rfl, runWrite_callsMade _ _ hidle⟩
  case readTempInt | readTempExt1 | readTempExt2 =>
    exact ⟨_, rfl, runReadTemp_callsMade (by decide) (by decide) hidle⟩

/-- Settles O36: a command ends with `respond` once all its frames are in the trace, or with `wait` for the last one
that entered. -/
theorem commandsMakeExactlyTheirCallsInOrder : Obligations.CommandsMakeExactlyTheirCallsInOrder := by
  intro i s t hidle h
  obtain ⟨u, e, hmade⟩ := exec_callsMade i hidle
  obtain rfl := Host.Outcome.next.inj (h.symm.trans e)
  exact hmade

end Sys2Proof.Machine
end
